-- ==== Sys2Proof/Word.lean ====
section
/-! DEFINITION. The word types of the FG-410: what the manual carries as bits of a fixed width. -/

namespace Sys2Proof

/-- One byte of a frame or of a table row (R171, R189). -/
abbrev Byte := BitVec 8

/-- A belt position: a 24-bit number that wraps (R1, R2). -/
abbrev Pos := BitVec 24

/-- A letter's sequence number, its tag in orders and answers (R18). -/
abbrev Seq := BitVec 16

/-- A station number 0 to 31, as a frame header carries it (R189). -/
abbrev Station := BitVec 5

/-- A table row: 16 bytes, byte 0 in the lowest bits (R171). -/
abbrev Row := BitVec 128

end Sys2Proof
end

