-- ==== Sys2Proof/Syntax.lean ====
section
/-! DEFINITION. The commands of the FG-410, one constructor for each row of spec/opcode_table.json. -/

namespace Sys2Proof

/-- The two scan heads (chapter 3). -/
inductive ScanHead where
  | f
  | r
  deriving DecidableEq, Repr

/-- The outcome a PURGEDONE report carries (R107). -/
inductive PurgeReport where
  | complete
  | aborted
  deriving DecidableEq, Repr

/-- A frame whose form is good (R175): its header bytes and its payload. The stated length is the payload's and the check is
the one R175 forms, so a good frame is given by these four fields. -/
structure Frame where
  /-- header byte 0: the destination station in bits 0 to 4 (R189) -/
  dest : Byte
  /-- header byte 1: the source station in bits 0 to 4 (R189) -/
  src : Byte
  /-- header byte 2: the kind (R189) -/
  kind : Byte
  payload : List Byte
  deriving DecidableEq, Repr

/-- The commands. A row that is a frame carries the frame's header bytes `dest` and `src` and the fields of its payload
(R190, R191); its check is good. An ask row is an ASK frame with that ask's code (notes/assumptions/6.md). -/
inductive Instr where
  /-- POWER_ON_RESET (R15): RSTn is asserted while the straps read `straps`. -/
  | powerOnReset (straps : Station)
  /-- TICK (R3). -/
  | tick (dest src : Byte) (pos : Pos)
  /-- LEAD_EDGE (R28). -/
  | leadEdge (dest src : Byte) (pos : Pos)
  /-- TRAIL_EDGE (R32). -/
  | trailEdge (dest src : Byte) (pos : Pos)
  /-- LINE (R41): sample 3c + b is that of cell c and band b (R190). -/
  | line (dest src : Byte) (head : ScanHead) (pos : Pos) (samples : Vector (BitVec 16) 24)
  /-- ARRIVE (R139). -/
  | arrive (dest src : Byte) (stacker : Byte) (pos : Pos)
  /-- SWEPT (R143). -/
  | swept (dest src : Byte) (stacker : Byte)
  /-- HEADFAULT (R104). -/
  | headfault (dest src : Byte) (head : Byte) (tag : Option Seq)
  /-- PURGEDONE (R107). -/
  | purgedone (dest src : Byte) (head : Byte) (outcome : PurgeReport)
  /-- ASK (R182): any ask code with any argument bytes. -/
  | ask (dest src : Byte) (code : Byte) (args : List Byte)
  /-- BAD_FRAME (R175): the bytes delimited at the ring input. -/
  | badFrame (bytes : List Byte)
  /-- FORWARDED_FRAME (R176). -/
  | forwardedFrame (frame : Frame)
  /-- OWN_FRAME_RETURN (R176). -/
  | ownFrameReturn (frame : Frame)
  /-- UNKNOWN_KIND (R177). -/
  | unknownKind (frame : Frame)
  /-- IDENTIFY (R183). -/
  | identify (dest src : Byte)
  /-- ECHO (R183). -/
  | echo (dest src : Byte) (args : List Byte)
  /-- LINK_STATUS (R184). -/
  | linkStatus (dest src : Byte)
  /-- MODE (R21): each entry is a head number and a setting. -/
  | mode (dest src : Byte) (target : Byte) (entries : List (Byte × Byte))
  /-- LANE_RESET (R185). -/
  | laneReset (dest src : Byte)
  /-- TABLE_OPEN (R159). -/
  | tableOpen (dest src : Byte) (table first count : Byte)
  /-- TABLE_ROW (R160). -/
  | tableRow (dest src : Byte) (row : List Byte)
  /-- TABLE_COMMIT (R161). -/
  | tableCommit (dest src : Byte) (sum : BitVec 16)
  /-- TABLE_ABORT (R164). -/
  | tableAbort (dest src : Byte)
  /-- TABLE_READ (R169): the position is a table identifier and a start row. -/
  | tableRead (dest src : Byte) (count : Byte) (position : Option (Byte × Byte))
  /-- PROTECT (R167). -/
  | protect (dest src : Byte) (tables : List Byte)
  /-- TALLY_FREEZE (R151). -/
  | tallyFreeze (dest src : Byte) (option : Byte)
  /-- TALLY_READ (R153). -/
  | tallyRead (dest src : Byte) (count : Byte) (start : Option Byte)
  /-- CLOCK_SET (R121). -/
  | clockSet (dest src : Byte) (year month day hour minute second dayOfWeek : Byte)
  /-- CLOCK_READ (R123). -/
  | clockRead (dest src : Byte)
  /-- FLAGS_READ (R187). -/
  | flagsRead (dest src : Byte)
  /-- FLAGS_CLEAR (R187): bits 20 to 23 are ignored (R189). -/
  | flagsClear (dest src : Byte) (set : BitVec 24)
  /-- MASK_SET (R187): bits 20 to 23 are ignored (R189). -/
  | maskSet (dest src : Byte) (set : BitVec 24)
  /-- HEAD_CONTROL_ENABLE (R112). -/
  | headControlEnable (dest src : Byte) (head : Byte)
  /-- HEAD_CONTROL_DISABLE (R113). -/
  | headControlDisable (dest src : Byte) (head : Byte)
  /-- HEAD_CONTROL_PURGE (R109). -/
  | headControlPurge (dest src : Byte) (head : Byte)
  /-- HEAD_CONTROL_ABORT_PURGE (R111). -/
  | headControlAbortPurge (dest src : Byte) (head : Byte)
  /-- HEAD_CONTROL_STATUS (R114). -/
  | headControlStatus (dest src : Byte) (head : Byte)
  /-- STACKER_SWEEP (R144): bit n stands for stacker n. -/
  | stackerSweep (dest src : Byte) (set : Byte)
  /-- TRACK_READ (R39). -/
  | trackRead (dest src : Byte) (start : Option Seq)
  /-- UNKNOWN_ASK (R182). -/
  | unknownAsk (dest src : Byte) (code : Byte) (args : List Byte)
  /-- EVALUATION_COMPLETION (R61). -/
  | evaluationCompletion
  /-- SENDING_COMPLETION (R179). -/
  | sendingCompletion
  /-- RESTART_TIMER_EXPIRY (R106). -/
  | restartTimerExpiry (head : Fin 4)
  /-- FAULT_WINDOW_EXPIRY (R106). -/
  | faultWindowExpiry (head : Fin 4)
  /-- PURGE_TIMEOUT (R108). -/
  | purgeTimeout (head : Fin 4)
  /-- SECOND_EVENT (R117). -/
  | secondEvent
  /-- RESET_RELEASE (R116). -/
  | resetRelease
  deriving DecidableEq, Repr

end Sys2Proof
end

