-- ==== Sys2Proof/Decode.lean ====
section
/-! DEFINITION. Frames as bytes: the byte order, the check and the payload layouts of R175, R189 and R190, read and written.
No row of spec/opcode_table.json gives bits, so decodeTableWord reads no command. -/

namespace Sys2Proof

/-- The number that bytes spell, least significant byte first (R171, R189). -/
def bytesNat : List Byte → Nat
  | [] => 0
  | b :: bs => b.toNat + 256 * bytesNat bs

/-- The n low bytes of a number, least significant byte first (R171, R189). -/
def natBytes : Nat → Nat → List Byte
  | 0, _ => []
  | n + 1, w => BitVec.ofNat 8 w :: natBytes n (w / 256)

/-- Two bytes as a 16-bit number (R189). -/
def le16 (b0 b1 : Byte) : BitVec 16 := BitVec.ofNat 16 (bytesNat [b0, b1])

/-- Three bytes as a 24-bit number (R189). -/
def le24 (b0 b1 b2 : Byte) : BitVec 24 := BitVec.ofNat 24 (bytesNat [b0, b1, b2])

/-- The station in bits 0 to 4 of a header byte; bits 5 to 7 are ignored (R189). -/
def station (b : Byte) : Station := b.setWidth 5

/-- The broadcast destination, station 31. -/
def broadcast : Station := 31

/-- One shift of the check register, polynomial x^16 + x^12 + x^5 + 1 (R175). -/
def crcShift (c : BitVec 16) : BitVec 16 :=
  if c.msb then (c <<< 1) ^^^ 0x1021#16 else c <<< 1

/-- One byte into the check register, most significant bit first (R175). -/
def crcByte (c : BitVec 16) (b : Byte) : BitVec 16 :=
  crcShift (crcShift (crcShift (crcShift (crcShift (crcShift (crcShift (crcShift
    (c ^^^ (b.setWidth 16 <<< 8)))))))))

/-- The check over header and payload: the register starts at FFFFh and the result is not inverted (R175). -/
def crc (bs : List Byte) : BitVec 16 := bs.foldl crcByte 0xFFFF#16

/-- Header and payload of a frame (R189). -/
def frameBody (f : Frame) : List Byte :=
  f.dest :: f.src :: f.kind :: BitVec.ofNat 8 f.payload.length :: f.payload

/-- A check's two bytes, most significant byte first (R175). -/
def checkBytes (c : BitVec 16) : List Byte := [(c >>> 8).setWidth 8, c.setWidth 8]

/-- The bytes of a frame on the line (R175, R189). -/
def frameBytes (f : Frame) : List Byte := frameBody f ++ checkBytes (crc (frameBody f))

/-- The greatest payload length (R175). -/
def maxPayload : Nat := 56

/-- The frame that delimited bytes hold, or none where R175 calls them bad: a stated length above 56, a number of bytes other
than 4 + the stated length + 2, or a check that disagrees. -/
def parseFrame : List Byte → Option Frame
  | dest :: src :: kind :: len :: rest =>
    if maxPayload < len.toNat ∨ rest.length ≠ len.toNat + 2 then none
    else
      let f : Frame := ⟨dest, src, kind, rest.take len.toNat⟩
      if rest.drop len.toNat = checkBytes (crc (frameBody f)) then some f else none
  | _ => none

/-- What a taken frame says, by kind and type (R177, R190). -/
inductive Message where
  | tick (pos : Pos)
  | leadEdge (pos : Pos)
  | trailEdge (pos : Pos)
  | line (head : ScanHead) (pos : Pos) (samples : Vector (BitVec 16) 24)
  | arrive (stacker : Byte) (pos : Pos)
  | swept (stacker : Byte)
  | headfault (head : Byte) (tag : Option Seq)
  | purgedone (head : Byte) (outcome : PurgeReport)
  | ask (code : Byte) (args : List Byte)
  deriving DecidableEq, Repr

/-- The kind code of a message's frame (R189). -/
def messageKind : Message → Byte
  | .tick _ => 0x01
  | .leadEdge _ => 0x02
  | .trailEdge _ => 0x02
  | .line .. => 0x03
  | .arrive .. => 0x05
  | .swept _ => 0x05
  | .headfault .. => 0x05
  | .purgedone .. => 0x05
  | .ask .. => 0x06

/-- A position in three bytes (R189). -/
def posBytes (p : Pos) : List Byte := natBytes 3 p.toNat

/-- The head code of a LINE (R190). -/
def headCode : ScanHead → Byte
  | .f => 0
  | .r => 1

/-- The outcome code of a PURGEDONE (R190). -/
def outcomeCode : PurgeReport → Byte
  | .complete => 0
  | .aborted => 1

/-- The 48 sample bytes of a LINE, two bytes each (R190). -/
def sampleBytes (samples : Vector (BitVec 16) 24) : List Byte :=
  samples.toList.flatMap fun w => natBytes 2 w.toNat

/-- A message's payload (R190). -/
def messagePayload : Message → List Byte
  | .tick p => posBytes p
  | .leadEdge p => 0 :: posBytes p
  | .trailEdge p => 1 :: posBytes p
  | .line h p samples => headCode h :: posBytes p ++ sampleBytes samples
  | .arrive n p => 1 :: n :: posBytes p
  | .swept n => [2, n]
  | .headfault h none => [3, h]
  | .headfault h (some t) => 3 :: h :: natBytes 2 t.toNat
  | .purgedone h o => [4, h, outcomeCode o]
  | .ask code args => code :: args

/-- The frame that carries a message under given header bytes. -/
def messageFrame (dest src : Byte) (m : Message) : Frame := ⟨dest, src, messageKind m, messagePayload m⟩

/-- The 24 samples in the bytes after a LINE's position (R190). -/
def samplesOf (bs : List Byte) : Vector (BitVec 16) 24 :=
  Vector.ofFn fun i => le16 (bs.getD (2 * i.val) 0) (bs.getD (2 * i.val + 1) 0)

/-- An EDGE payload (R190): type 0 LEAD, 1 TRAIL; another type names nothing (R177). -/
def edgeOf : List Byte → Option Message
  | [t, b0, b1, b2] =>
    if t = 0 then some (.leadEdge (le24 b0 b1 b2))
    else if t = 1 then some (.trailEdge (le24 b0 b1 b2)) else none
  | _ => none

/-- A LINE payload (R190): 52 bytes, head 0 F or 1 R. -/
def lineOf : List Byte → Option Message
  | h :: b0 :: b1 :: b2 :: rest =>
    if rest.length ≠ 48 then none
    else if h = 0 then some (.line .f (le24 b0 b1 b2) (samplesOf rest))
    else if h = 1 then some (.line .r (le24 b0 b1 b2) (samplesOf rest)) else none
  | _ => none

/-- A REPORT payload (R190): ARRIVE, SWEPT, HEADFAULT with or without a tag, PURGEDONE; the rest names nothing (R177). -/
def reportOf : List Byte → Option Message
  | [t, a] =>
    if t = 2 then some (.swept a) else if t = 3 then some (.headfault a none) else none
  | [t, a, b] =>
    if t ≠ 4 then none
    else if b = 0 then some (.purgedone a .complete)
    else if b = 1 then some (.purgedone a .aborted) else none
  | [t, a, b, c] => if t = 3 then some (.headfault a (some (le16 b c))) else none
  | [t, a, b, c, d] => if t = 1 then some (.arrive a (le24 b c d)) else none
  | _ => none

/-- What a taken frame of a kind and payload says, or none where R177 discards it. -/
def messageOf (kind : Byte) (payload : List Byte) : Option Message :=
  if kind = 0x01 then
    match payload with
    | [b0, b1, b2] => some (.tick (le24 b0 b1 b2))
    | _ => none
  else if kind = 0x02 then edgeOf payload
  else if kind = 0x03 then lineOf payload
  else if kind = 0x05 then reportOf payload
  else if kind = 0x06 then
    match payload with
    | code :: args => some (.ask code args)
    | [] => none
  else none

/-- The codes of the asks (R182). -/
def askCodes : List Byte :=
  [0x01, 0x02, 0x03, 0x04, 0x05, 0x06, 0x07, 0x08, 0x09, 0x0A, 0x0B, 0x0C, 0x0D, 0x0E, 0x0F, 0x10, 0x11, 0x12, 0x13,
    0x14, 0x15]

/-- The argument bytes of a MODE ask (R191). -/
def modeArgs (target : Byte) (entries : List (Byte × Byte)) : List Byte :=
  target :: entries.flatMap fun e => [e.1, e.2]

/-- The argument bytes of a TABLE READ ask (R191). -/
def tableReadArgs (count : Byte) : Option (Byte × Byte) → List Byte
  | none => [count]
  | some (t, r) => [count, t, r]

/-- The argument bytes of a TALLY READ ask (R191). -/
def tallyReadArgs (count : Byte) : Option Byte → List Byte
  | none => [count]
  | some i => [count, i]

/-- The argument bytes of a TRACK READ ask (R191). -/
def trackReadArgs : Option Seq → List Byte
  | none => []
  | some s => natBytes 2 s.toNat

/-- A HEAD CONTROL ask's frame for an action code (R114, R191). -/
def headControlFrame (dest src head action : Byte) : Frame := messageFrame dest src (.ask 0x13 [head, action])

/-- The frame at the ring input that a command stands for: its kind, type or ask code and its fields laid out by R190 and R191.
A bad frame and the events that no frame brings have none; bytes that are not a bad frame are the frame they spell. -/
def Instr.frameOf : Instr → Option Frame
  | .tick d s p => some (messageFrame d s (.tick p))
  | .leadEdge d s p => some (messageFrame d s (.leadEdge p))
  | .trailEdge d s p => some (messageFrame d s (.trailEdge p))
  | .line d s h p w => some (messageFrame d s (.line h p w))
  | .arrive d s n p => some (messageFrame d s (.arrive n p))
  | .swept d s n => some (messageFrame d s (.swept n))
  | .headfault d s h t => some (messageFrame d s (.headfault h t))
  | .purgedone d s h o => some (messageFrame d s (.purgedone h o))
  | .ask d s c args => some (messageFrame d s (.ask c args))
  | .badFrame bytes => parseFrame bytes
  | .forwardedFrame f => some f
  | .ownFrameReturn f => some f
  | .unknownKind f => some f
  | .identify d s => some (messageFrame d s (.ask 0x01 []))
  | .echo d s args => some (messageFrame d s (.ask 0x02 args))
  | .linkStatus d s => some (messageFrame d s (.ask 0x03 []))
  | .mode d s m es => some (messageFrame d s (.ask 0x04 (modeArgs m es)))
  | .laneReset d s => some (messageFrame d s (.ask 0x05 []))
  | .tableOpen d s t f n => some (messageFrame d s (.ask 0x06 [t, f, n]))
  | .tableRow d s r => some (messageFrame d s (.ask 0x07 r))
  | .tableCommit d s sum => some (messageFrame d s (.ask 0x08 (natBytes 2 sum.toNat)))
  | .tableAbort d s => some (messageFrame d s (.ask 0x09 []))
  | .tableRead d s k p => some (messageFrame d s (.ask 0x0A (tableReadArgs k p)))
  | .protect d s ts => some (messageFrame d s (.ask 0x0B ts))
  | .tallyFreeze d s o => some (messageFrame d s (.ask 0x0C [o]))
  | .tallyRead d s k i => some (messageFrame d s (.ask 0x0D (tallyReadArgs k i)))
  | .clockSet d s y m dd h mi se w => some (messageFrame d s (.ask 0x0E [y, m, dd, h, mi, se, w]))
  | .clockRead d s => some (messageFrame d s (.ask 0x0F []))
  | .flagsRead d s => some (messageFrame d s (.ask 0x10 []))
  | .flagsClear d s w => some (messageFrame d s (.ask 0x11 (natBytes 3 w.toNat)))
  | .maskSet d s w => some (messageFrame d s (.ask 0x12 (natBytes 3 w.toNat)))
  | .headControlEnable d s h => some (headControlFrame d s h 0)
  | .headControlDisable d s h => some (headControlFrame d s h 1)
  | .headControlPurge d s h => some (headControlFrame d s h 2)
  | .headControlAbortPurge d s h => some (headControlFrame d s h 3)
  | .headControlStatus d s h => some (headControlFrame d s h 4)
  | .stackerSweep d s w => some (messageFrame d s (.ask 0x14 [w]))
  | .trackRead d s q => some (messageFrame d s (.ask 0x15 (trackReadArgs q)))
  | .unknownAsk d s c args => some (messageFrame d s (.ask c args))
  | .evaluationCompletion => none
  | .sendingCompletion => none
  | .restartTimerExpiry _ => none
  | .faultWindowExpiry _ => none
  | .purgeTimeout _ => none
  | .secondEvent => none
  | .resetRelease => none
  | .powerOnReset _ => none

/-- The command a word spells by the table's bits. The table gives no row any bits, so no word spells one. -/
def decodeTableWord (_nbits _w : Nat) : Option Instr := none

end Sys2Proof
end

