-- ==== Sys2Proof/Config.lean ====
section
/-! DEFINITION. What the manual leaves to the part or to the board: the strap reading of the reset state, and the
free order of the owners of an advance. -/

namespace Sys2Proof.Config

/-- The station number that State.reset holds. The straps of the board give it (R176) and the manual gives no reading.
DESIGN CHOICE (notes/assumptions/1.md), unsafe. -/
def strapsAtReset : Station := 0

/-- Where the letter track stands among the three owners of an advance (R4). The cancel unit's expiries and the routing
unit's retirements touch no common state, so only their places before or after the track's work count. -/
structure OwnerOrder where
  /-- the cancel unit expires bookings before the track declares lateness and loss -/
  cancelFirst : Bool
  /-- the routing unit retires plan entries before the track declares lateness and loss -/
  routingFirst : Bool
  deriving DecidableEq, Repr, Inhabited

/-- FREE VALUE (notes/assumptions/8.md), safe: the order in which the owners take the n-th advance whose outcome depends on it.
R4 and R19 give the outcome of each order and no order. -/
opaque advanceOrder : Nat → OwnerOrder

end Sys2Proof.Config
end

