-- ==== Sys2Proof/Machine/State.lean ====
section
/-! DEFINITION. The state of the FG-410, block by block as the manual's block overview gives it, all plain data, and the state
after a power-on reset. -/

namespace Sys2Proof.Machine

/-- Nothing in the manual stops the part: a refused ask is answered with a status, a bad frame is counted. So no fault exists
and nothing raises one. -/
inductive Fault where
  deriving DecidableEq, Repr

/-- Why a step may be refused. -/
inductive Refusal where
  /-- A command whose meaning is not written: raised by an arm of exec only, and safe. No arm raises it. -/
  | notModelled (mnemonic : String)
  deriving DecidableEq, Repr

/-! ## Names -/

/-- The lane modes (R15, R20). -/
inductive LaneMode where
  | stopped
  | running
  | draining
  | service
  deriving DecidableEq, Repr

/-- The two paths beyond the gate (chapter 5). -/
inductive Path where
  | straight
  | turn
  deriving DecidableEq, Repr

/-- The states of a letter (R16). `opened` is OPEN. -/
inductive LetterState where
  | opened
  | queued
  | evaluating
  | routed
  deriving DecidableEq, Repr

/-- The causes of a retirement (R19). -/
inductive Retirement where
  | delivered
  | lost
  | abandoned
  deriving DecidableEq, Repr

/-- The residue causes (R16). -/
inductive ResidueCause where
  | late
  | noroom
  | unrouted
  | forced
  | noprint
  | full
  deriving DecidableEq, Repr

/-- The eight corners, in the bit order of a ROUTING row's corner set (R172). -/
inductive Corner where
  | ftl
  | ftt
  | fbl
  | fbt
  | rtl
  | rtt
  | rbl
  | rbt
  deriving DecidableEq, Repr

/-- The verdict kinds (R70), in the bit order of a ROUTING row's verdict set (R172). -/
inductive VerdictKind where
  | faced
  | odd
  | none
  | ambiguous
  deriving DecidableEq, Repr

/-- The status of a print (R16). -/
inductive PrintStatus where
  | planned
  | done
  | failed
  deriving DecidableEq, Repr

/-- The states of a cancel head (R95). -/
inductive HeadState where
  | disabled
  | ready
  | purgeWait
  | purging
  | resting
  | latched
  deriving DecidableEq, Repr

/-- The last purge outcome of a head (R95). -/
inductive PurgeOutcome where
  | none
  | complete
  | aborted
  | timeout
  deriving DecidableEq, Repr

/-- The lamp conditions of a stacker (R136). -/
inductive LampCondition where
  | normal
  | near
  | full
  deriving DecidableEq, Repr

/-- The twenty condition flags, in the order of their numbers (R186). -/
inductive ConditionFlag where
  | late
  | lost
  | stray
  | forced
  | noprint
  | printfail
  | headfault
  | headlatch
  | stackfull
  | residuefull
  | trackfull
  | edgefault
  | scangap
  | clockinvalid
  | forbidden
  | loaderr
  | tallywrap
  | linkerr
  | fwddrop
  | noticedrop
  deriving DecidableEq, Repr

/-- The eight tables, in the order of their identifiers (R158). -/
inductive TableId where
  | signature
  | routing
  | pattern
  | stacker
  | geometry
  | scanset
  | office
  | lamp
  deriving DecidableEq, Repr

/-- The statuses of an answer, in the order of their codes (R182). -/
inductive Status where
  | ok
  | busy
  | mode
  | range
  | protected_
  | sequence
  | check
  | forbidden
  | unknown
  deriving DecidableEq, Repr

/-! ## Position unit (chapter 1) -/

/-- The derived distances of a GEOMETRY commit, in main counts (R11). -/
structure LaneDistances where
  deadline : Nat
  retire : Nat
  cancelStraight : Nat
  cancelTurn : Nat
  deriving DecidableEq, Repr

/-- The derived distances of one stacker, in main counts (R11). -/
structure StackerDistance where
  arrival : Nat
  diverter : Nat
  deriving DecidableEq, Repr

/-- The position unit: the belt position and the derived distances, absent until formed (R1, R11). -/
structure PositionUnit where
  belt : Pos
  lane : Option LaneDistances
  stackers : Option (Vector StackerDistance 8)
  deriving DecidableEq, Repr

/-! ## Window records and verdicts (chapters 3 and 4) -/

/-- One value for each band: GLOW, FLUOR and RED. -/
structure Bands where
  glow : Nat
  fluor : Nat
  red : Nat
  deriving DecidableEq, Repr

/-- A span of letter offsets (R51). -/
structure Span where
  first : Nat
  last : Nat
  deriving DecidableEq, Repr

/-- The running measures of a window (R45). -/
structure WindowSum where
  strength : Bands
  area : Bands
  span : Option Span
  deriving DecidableEq, Repr

/-- A window record (R53). Its corner is its place among the eight. -/
structure WindowRecord where
  range : Span
  sum : WindowSum
  q : Nat
  deriving DecidableEq, Repr

/-- A verdict (R70, R72). -/
structure Verdict where
  kind : VerdictKind
  corner : Option Corner
  markKind : Nat
  signature : Option Nat
  span : Option Span
  deriving DecidableEq, Repr

/-! ## Letter track (chapter 2) -/

/-- The letter flags a letter holds (R16). -/
structure LetterFlags where
  long : Bool
  short : Bool
  edgelost : Bool
  crowded : Bool
  scangap : Bool
  shortscan : Bool
  multi : Bool
  deriving DecidableEq, Repr

/-- A letter's disposition (R16). Its print is the letter's `print`. -/
structure Disposition where
  path : Path
  stacker : Fin 8
  row : Option Nat
  cause : Option ResidueCause
  deriving DecidableEq, Repr

/-- A letter's print (R16). -/
structure Print where
  head : Fin 4
  start : Pos
  length : Nat
  pattern : Fin 8
  status : PrintStatus
  deriving DecidableEq, Repr

/-- An arrival window (R133). -/
structure ArrivalWindow where
  start : Pos
  stop : Pos
  deriving DecidableEq, Repr

/-- A letter record (R16). -/
structure Letter where
  seq : Seq
  leading : Pos
  deadline : Pos
  length : Option Nat
  flags : LetterFlags
  state : LetterState
  windows : Option (Vector WindowRecord 8)
  verdict : Option Verdict
  disposition : Option Disposition
  print : Option Print
  window : Option ArrivalWindow
  deriving DecidableEq, Repr

/-- The letter track (R15). -/
structure LetterTrack where
  letters : List Letter
  mode : LaneMode
  seqCounter : Seq
  lastTrailing : Option Pos
  trailExpected : Bool
  unmatched : BitVec 16
  deriving DecidableEq, Repr

/-! ## Scan unit (chapter 3) -/

/-- One half, upper or lower, of a line's partial (R43). -/
structure HalfPartial where
  excess : Bands
  hits : Bands
  mark : Bool
  deriving DecidableEq, Repr

/-- A line partial (R43). -/
structure LinePartial where
  offset : Nat
  upper : HalfPartial
  lower : HalfPartial
  deriving DecidableEq, Repr

/-- The scan context of the OPEN letter (R40, R44, R45). -/
structure ScanContext where
  seq : Seq
  leading : Pos
  greatest : Option Nat
  countF : BitVec 16
  countR : BitVec 16
  ftl : WindowSum
  fbl : WindowSum
  rtl : WindowSum
  rbl : WindowSum
  deriving DecidableEq, Repr

/-- The scan unit (R40): the 24 bg8 values of a head stand at 3c + b for cell c and band b. -/
structure ScanUnit where
  backgroundF : Vector Nat 24
  backgroundR : Vector Nat 24
  context : Option ScanContext
  storeF : List LinePartial
  storeR : List LinePartial
  deriving DecidableEq, Repr

/-! ## Evaluation unit (chapter 4) -/

/-- The evaluation unit (R58). Letters are named by sequence number: the track holds each number once, and a retirement makes
the subject absent. -/
structure EvaluationUnit where
  busy : Bool
  subject : Option Seq
  queue : List Seq
  deriving DecidableEq, Repr

/-! ## Routing unit (chapter 5) -/

/-- An entry of the gate plan (R90). -/
structure PlanEntry where
  seq : Seq
  path : Path
  leading : Pos
  trailing : Pos
  retire : Pos
  edgelost : Bool
  deriving DecidableEq, Repr

/-- The routing unit (R75). -/
structure RoutingUnit where
  plan : List PlanEntry
  gatePath : Path
  deriving DecidableEq, Repr

/-! ## Cancel unit (chapter 6) -/

/-- A booking of a head (R101). -/
structure Booking where
  tag : Seq
  start : Pos
  stop : Pos
  occupied : Pos
  deriving DecidableEq, Repr

/-- A running head timer: its duration and the millisecond events left before it expires (R13). -/
structure Timer where
  duration : Nat
  left : Nat
  deriving DecidableEq, Repr

/-- One cancel head (R95). A timer that is absent is stopped; a fault window that is absent is closed. -/
structure Head where
  state : HeadState
  bookings : List Booking
  restart : Option Timer
  faultWindow : Option Timer
  purge : Option Timer
  abort : Bool
  lastPurge : PurgeOutcome
  deriving DecidableEq, Repr

/-! ## Postmark clock (chapter 7) -/

/-- The postmark clock (R116). -/
structure Clock where
  year : Nat
  month : Nat
  day : Nat
  hour : Nat
  minute : Nat
  second : Nat
  dayOfWeek : Nat
  valid : Bool
  phase : Nat
  deriving DecidableEq, Repr

/-! ## Stacker unit (chapter 8) -/

/-- One stacker (R127). Its waiting lamp order is the LAMP waiting place of the ring port (R178). -/
structure Stacker where
  inFlight : Nat
  arrived : BitVec 32
  lamp : LampCondition
  deriving DecidableEq, Repr

/-! ## Tally unit (chapter 9) -/

/-- The tally unit (R146). -/
structure TallyUnit where
  live : Vector (BitVec 32) 64
  liveMarks : Vector Bool 64
  snapshot : Vector (BitVec 32) 64
  snapshotMarks : Vector Bool 64
  number : BitVec 16
  cursor : Nat
  deriving DecidableEq, Repr

/-! ## Table store (chapter 10) -/

/-- The rows of the eight tables (R157, R158). -/
structure Tables where
  signature : Vector Row 16
  routing : Vector Row 48
  pattern : Vector Row 8
  stacker : Vector Row 8
  geometry : Vector Row 4
  scanset : Vector Row 2
  office : Vector Row 2
  lamp : Vector Row 1
  deriving DecidableEq, Repr

/-- An open load (R157): the load context and, in `rows`, the staging buffer. The received count is the length of `rows`. -/
structure Load where
  table : TableId
  first : Nat
  declared : Nat
  rows : List Row
  sum : BitVec 16
  deriving DecidableEq, Repr

/-- The table store (R157). Committed indicators and protected set stand at the table's identifier; no load is NONE. -/
structure TableStore where
  tables : Tables
  committed : Vector Bool 8
  protectedSet : BitVec 8
  chanceUsed : Bool
  load : Option Load
  cursorTable : TableId
  cursorRow : Nat
  deriving DecidableEq, Repr

/-! ## Condition unit (chapter 11) -/

/-- The condition unit (R186): bit i stands for flag number i; a set mask bit is a set masked indicator. -/
structure ConditionUnit where
  flags : BitVec 20
  mask : BitVec 20
  deriving DecidableEq, Repr

/-! ## Ring port (chapter 11) -/

/-- An order's payload (R190). -/
inductive Order where
  | gate (path : Path) (switchAt : Pos)
  | print (head : Fin 4) (tag : Seq) (start : Pos) (length : Nat) (pattern : Fin 8) (style : Nat)
      (day month year hour : Nat) (office lane : Nat)
  | stack (stacker : Fin 8) (tag : Seq) (openAt closeAt : Pos)
  | purge (head : Fin 4)
  | abort (head : Fin 4)
  | lamp (stacker : Fin 8) (pattern : Option Nat) (steps : Nat)
  deriving DecidableEq, Repr

/-- An order with the station it is addressed to. -/
structure OrderFrame where
  dest : Station
  order : Order
  deriving DecidableEq, Repr

/-- The cause of a HALT notice (R188); RESIDUEFULL names the stacker. -/
inductive HaltCause where
  | trackfull
  | residuefull (stacker : Fin 8)
  deriving DecidableEq, Repr

/-- A frame of the answer queue (R178): one part of an answer, or a notice. -/
inductive Reply where
  | answer (dest : Station) (code : Byte) (status : Status) (part : Nat) (last : Bool) (data : List Byte)
  | alert (dest : Station) (flag : ConditionFlag)
  | halt (dest : Station) (cause : HaltCause)
  deriving DecidableEq, Repr

/-- An ask in the intake (R178, R182): its source station, its code and its argument bytes. -/
structure IntakeAsk where
  src : Station
  code : Byte
  args : List Byte
  deriving DecidableEq, Repr

/-- The sixteen waiting places (R178). -/
inductive WaitPlace where
  | lamp (stacker : Fin 8)
  | purge (head : Fin 4)
  | abort (head : Fin 4)
  deriving DecidableEq, Repr

/-- An occupied waiting place and its order. -/
structure Waiting where
  place : WaitPlace
  order : OrderFrame
  deriving DecidableEq, Repr

/-- The queue the turn indicator favours (R178). -/
inductive Turn where
  | forward
  | answer
  deriving DecidableEq, Repr

/-- The six link counters (R178). -/
structure LinkCounters where
  badCheck : BitVec 16
  unknownKind : BitVec 16
  forwardDrop : BitVec 16
  askDrop : BitVec 16
  noticeDrop : BitVec 16
  strayReport : BitVec 16
  deriving DecidableEq, Repr

/-- The ring port (R176, R178). `sending` is the output state: none is IDLE. `waiting` lists the occupied places, the longest
waiting first. -/
structure RingPort where
  own : Station
  forward : List Frame
  orders : List OrderFrame
  answers : List Reply
  intake : List IntakeAsk
  waiting : List Waiting
  sending : Option Frame
  turn : Turn
  counters : LinkCounters
  /-- The MODEL's own: places of the answer queue kept for the parts of the answer being formed; 0 between events
  (notes/assumptions/10.md). -/
  reserved : Nat
  deriving DecidableEq, Repr

/-! ## Timebase -/

/-- The reset pin and the division of TBASE into millisecond events (R13). -/
structure TimeBase where
  rstnAsserted : Bool
  msPhase : Nat
  deriving DecidableEq, Repr

/-! ## The state -/

/-- The state of the FG-410: every block's state, and three fields of the model's own (`pending`, `choices` and the ring
port's `reserved`). -/
structure State where
  position : PositionUnit
  track : LetterTrack
  scan : ScanUnit
  eval : EvaluationUnit
  routing : RoutingUnit
  heads : Vector Head 4
  clock : Clock
  stackers : Vector Stacker 8
  tally : TallyUnit
  store : TableStore
  cond : ConditionUnit
  ring : RingPort
  time : TimeBase
  /-- The MODEL's own: how many open orders have been settled (notes/assumptions/8.md). -/
  choices : Nat
  /-- The MODEL's own: the commands that wait, first in first out. -/
  pending : List Instr
  deriving DecidableEq, Repr

/-! ## Power-on reset -/

/-- Power-on values of the position unit (R1, R11). -/
def PositionUnit.reset : PositionUnit := ⟨0, none, none⟩

/-- Power-on values of the letter track (R15). -/
def LetterTrack.reset : LetterTrack := ⟨[], .stopped, 0, none, false, 0⟩

/-- Power-on values of the scan unit (R40). -/
def ScanUnit.reset : ScanUnit := ⟨Vector.replicate 24 0, Vector.replicate 24 0, none, [], []⟩

/-- Power-on values of the evaluation unit (R58). -/
def EvaluationUnit.reset : EvaluationUnit := ⟨false, none, []⟩

/-- Power-on values of the routing unit (R75). -/
def RoutingUnit.reset : RoutingUnit := ⟨[], .straight⟩

/-- Power-on values of a head (R95). -/
def Head.reset : Head := ⟨.disabled, [], none, none, none, false, .none⟩

/-- Power-on values of the clock: 00-01-01 00:00:00, day of week 1, INVALID (R116). -/
def Clock.reset : Clock := ⟨0, 1, 1, 0, 0, 0, 1, false, 0⟩

/-- Power-on values of a stacker (R127). -/
def Stacker.reset : Stacker := ⟨0, 0, .normal⟩

/-- Power-on values of the tally unit (R146). -/
def TallyUnit.reset : TallyUnit :=
  ⟨Vector.replicate 64 0, Vector.replicate 64 false, Vector.replicate 64 0, Vector.replicate 64 false, 0, 0⟩

/-- Zero rows (R157). -/
def Tables.zero : Tables :=
  ⟨Vector.replicate 16 0, Vector.replicate 48 0, Vector.replicate 8 0, Vector.replicate 8 0, Vector.replicate 4 0,
    Vector.replicate 2 0, Vector.replicate 2 0, Vector.replicate 1 0⟩

/-- Power-on values of the table store (R157). -/
def TableStore.reset : TableStore := ⟨Tables.zero, Vector.replicate 8 false, 0, false, none, .signature, 0⟩

/-- Power-on values of the condition unit: only CLOCKINVALID (flag 13) set, every flag masked (R186). -/
def ConditionUnit.reset : ConditionUnit := ⟨0x02000#20, 0xFFFFF#20⟩

/-- Power-on values of the link counters (R178). -/
def LinkCounters.reset : LinkCounters := ⟨0, 0, 0, 0, 0, 0⟩

/-- Power-on values of the ring port of a part whose straps read `straps` (R176, R178). -/
def RingPort.reset (straps : Station) : RingPort := ⟨straps, [], [], [], [], [], none, .answer, .reset, 0⟩

/-- The power-on state of a part whose straps read `straps`, RSTn asserted. -/
def State.powerOn (straps : Station) : State where
  position := .reset
  track := .reset
  scan := .reset
  eval := .reset
  routing := .reset
  heads := Vector.replicate 4 .reset
  clock := .reset
  stackers := Vector.replicate 8 .reset
  tally := .reset
  store := .reset
  cond := .reset
  ring := .reset straps
  time := ⟨true, 0⟩
  choices := 0
  pending := []

/-- The machine right after reset: the power-on state with RSTn released (notes/assumptions/2.md) and the strap reading of
notes/assumptions/1.md. -/
def State.reset : State := { State.powerOn Config.strapsAtReset with time := ⟨false, 0⟩ }

end Sys2Proof.Machine
end

