-- ==== Sys2Proof/Machine/Operands.lean ====
section
/-! DEFINITION. What the blocks compute from operands and rows, without touching the state: positions, saturating counts, the
fields of the eight tables, the path conversion. -/

namespace Sys2Proof.Machine

/-! ## Positions (R2, R5) -/

/-- The distance forward from a to b (R2). -/
def distance (a b : Pos) : Nat := (b - a).toNat

/-- b is at or past a (R2). -/
def atOrPast (b a : Pos) : Bool := decide (distance a b < 8388608)

/-- A position plus a distance, modulo 2^24 (R12). -/
def addDistance (p : Pos) (d : Nat) : Pos := p + BitVec.ofNat 24 d

/-- A position less a distance, modulo 2^24 (R135). -/
def subDistance (p : Pos) (d : Nat) : Pos := p - BitVec.ofNat 24 d

/-- The offset of a position in a letter with the given leading position, when it has one (R5). -/
def offsetIn (leading x : Pos) : Option Nat :=
  if distance leading x ≤ 4095 then some (distance leading x) else none

/-! ## Counts -/

/-- A 16-bit count that saturates at 65,535 (R15, R181). -/
def satInc16 (c : BitVec 16) : BitVec 16 := if c = BitVec.allOnes 16 then c else c + 1

/-- A 32-bit count that saturates at 4,294,967,295 (R127). -/
def satInc32 (c : BitVec 32) : BitVec 32 := if c = BitVec.allOnes 32 then c else c + 1

/-- One entry of a vector changed. -/
def updateAt {α : Type} {n : Nat} (v : Vector α n) (i : Fin n) (f : α → α) : Vector α n := v.set i.val (f v[i]) i.isLt

/-! ## Codes (R189, R190, R191) -/

/-- The number of a condition flag (R186). -/
def flagNumber : ConditionFlag → Nat
  | .late => 0
  | .lost => 1
  | .stray => 2
  | .forced => 3
  | .noprint => 4
  | .printfail => 5
  | .headfault => 6
  | .headlatch => 7
  | .stackfull => 8
  | .residuefull => 9
  | .trackfull => 10
  | .edgefault => 11
  | .scangap => 12
  | .clockinvalid => 13
  | .forbidden => 14
  | .loaderr => 15
  | .tallywrap => 16
  | .linkerr => 17
  | .fwddrop => 18
  | .noticedrop => 19

/-- The code of a status (R182). -/
def statusCode : Status → Byte
  | .ok => 0
  | .busy => 1
  | .mode => 2
  | .range => 3
  | .protected_ => 4
  | .sequence => 5
  | .check => 6
  | .forbidden => 7
  | .unknown => 8

/-- The code of a lane mode (R191). -/
def modeCode : LaneMode → Byte
  | .stopped => 0
  | .running => 1
  | .draining => 2
  | .service => 3

/-- The lane mode of a code, if it is one of the four (R21, R191). -/
def modeOf (b : Byte) : Option LaneMode :=
  if b = 0 then some .stopped
  else if b = 1 then some .running
  else if b = 2 then some .draining
  else if b = 3 then some .service else none

/-- The code of a path (R190). -/
def pathCode : Path → Byte
  | .straight => 0
  | .turn => 1

/-- The code of a head state (R191). -/
def headStateCode : HeadState → Byte
  | .disabled => 0
  | .ready => 1
  | .purgeWait => 2
  | .purging => 3
  | .resting => 4
  | .latched => 5

/-- The code of a purge outcome (R191). -/
def purgeCode : PurgeOutcome → Byte
  | .none => 0
  | .complete => 1
  | .aborted => 2
  | .timeout => 3

/-- The code of a lamp condition (R191). -/
def lampCode : LampCondition → Byte
  | .normal => 0
  | .near => 1
  | .full => 2

/-- The code of a letter state (R191). -/
def letterStateCode : LetterState → Byte
  | .opened => 0
  | .queued => 1
  | .evaluating => 2
  | .routed => 3

/-- The code of a verdict kind (R191); also its bit in a verdict set (R172). -/
def verdictCode : VerdictKind → Nat
  | .faced => 0
  | .odd => 1
  | .none => 2
  | .ambiguous => 3

/-- The number of a corner (R172, R191). -/
def cornerNumber : Corner → Fin 8
  | .ftl => 0
  | .ftt => 1
  | .fbl => 2
  | .fbt => 3
  | .rtl => 4
  | .rtt => 5
  | .rbl => 6
  | .rbt => 7

/-- The code of a residue cause (R191). -/
def causeCode : ResidueCause → Byte
  | .late => 0
  | .noroom => 1
  | .unrouted => 2
  | .forced => 3
  | .noprint => 4
  | .full => 5

/-- The code of a print status (R191). -/
def printStatusCode : PrintStatus → Byte
  | .planned => 0
  | .done => 1
  | .failed => 2

/-- An indicator byte (R191). -/
def indicator (b : Bool) : Byte := if b then 1 else 0

/-- The number of a table (R158). -/
def tableNumber : TableId → Fin 8
  | .signature => 0
  | .routing => 1
  | .pattern => 2
  | .stacker => 3
  | .geometry => 4
  | .scanset => 5
  | .office => 6
  | .lamp => 7

/-- A table's identifier byte (R158). -/
def tableCode (t : TableId) : Byte := BitVec.ofNat 8 (tableNumber t).val

/-- The table of an identifier, if it is at most 7 (R158). -/
def tableOf (b : Byte) : Option TableId :=
  if b = 0 then some .signature
  else if b = 1 then some .routing
  else if b = 2 then some .pattern
  else if b = 3 then some .stacker
  else if b = 4 then some .geometry
  else if b = 5 then some .scanset
  else if b = 6 then some .office
  else if b = 7 then some .lamp else none

/-- The row count of a table (R158). -/
def rowCount : TableId → Nat
  | .signature => 16
  | .routing => 48
  | .pattern => 8
  | .stacker => 8
  | .geometry => 4
  | .scanset => 2
  | .office => 2
  | .lamp => 1

/-- The letter flags as a byte, bits as byte 4 of a ROUTING row (R172, R191). -/
def flagsByte (f : LetterFlags) : Byte :=
  (if f.long then 1 else 0) ||| (if f.short then 2 else 0) ||| (if f.edgelost then 4 else 0)
    ||| (if f.crowded then 8 else 0) ||| (if f.scangap then 16 else 0) ||| (if f.shortscan then 32 else 0)
    ||| (if f.multi then 64 else 0)

/-- No letter flag. -/
def noFlags : LetterFlags := ⟨false, false, false, false, false, false, false⟩

/-! ## Rows (R171) -/

/-- Byte k of a row. -/
def byteAt (r : Row) (k : Nat) : Nat := (r.toNat >>> (8 * k)) % 256

/-- The 16-bit number at bytes k and k + 1 of a row. -/
def word16At (r : Row) (k : Nat) : Nat := (r.toNat >>> (8 * k)) % 65536

/-- The 24-bit number at bytes k to k + 2 of a row. -/
def word24At (r : Row) (k : Nat) : Nat := (r.toNat >>> (8 * k)) % 16777216

/-- Bit i of a set stored at byte k of a row; a set may span bytes. -/
def bitAt (r : Row) (k i : Nat) : Bool := r.getLsbD (8 * k + i)

/-- A field that may be none holds FFh for none (R171). -/
def optionalAt (r : Row) (k : Nat) : Option Nat := if byteAt r k = 255 then none else some (byteAt r k)

/-- A row of 16 bytes. -/
def rowOfBytes (bs : List Byte) : Row := BitVec.ofNat 128 (bytesNat bs)

/-- The 16 bytes of a row. -/
def rowBytes (r : Row) : List Byte := natBytes 16 r.toNat

/-- The sum of a row's bytes, modulo 65,536 (R160). -/
def byteSum (bs : List Byte) : BitVec 16 := BitVec.ofNat 16 (bs.map BitVec.toNat).sum

/-- A row of a table; a row that the table does not have reads as zero. -/
def tableRow (ts : Tables) : TableId → Nat → Row
  | .signature, i => ts.signature[i]?.getD 0
  | .routing, i => ts.routing[i]?.getD 0
  | .pattern, i => ts.pattern[i]?.getD 0
  | .stacker, i => ts.stacker[i]?.getD 0
  | .geometry, i => ts.geometry[i]?.getD 0
  | .scanset, i => ts.scanset[i]?.getD 0
  | .office, i => ts.office[i]?.getD 0
  | .lamp, i => ts.lamp[i]?.getD 0

/-- One table's rows with staged rows put at their indexes, row first + i for the i-th (R160, R162). -/
def overlayRows {n : Nat} (live : Vector Row n) (first : Nat) (staged : List Row) : Vector Row n :=
  Vector.ofFn fun i => if first ≤ i.val then (staged[i.val - first]?).getD live[i] else live[i]

/-- The tables as they would stand after a commit of the load (R162). -/
def overlay (ts : Tables) (l : Load) : Tables :=
  match l.table with
  | .signature => { ts with signature := overlayRows ts.signature l.first l.rows }
  | .routing => { ts with routing := overlayRows ts.routing l.first l.rows }
  | .pattern => { ts with pattern := overlayRows ts.pattern l.first l.rows }
  | .stacker => { ts with stacker := overlayRows ts.stacker l.first l.rows }
  | .geometry => { ts with geometry := overlayRows ts.geometry l.first l.rows }
  | .scanset => { ts with scanset := overlayRows ts.scanset l.first l.rows }
  | .office => { ts with office := overlayRows ts.office l.first l.rows }
  | .lamp => { ts with lamp := overlayRows ts.lamp l.first l.rows }

/-! ## Tables read by the blocks (R172, R173, R174) -/

/-- A signature entry (R64, R172). The band is its code: 0 GLOW, 1 FLUOR, 2 RED, 3 none. -/
structure SignatureEntry where
  enabled : Bool
  band : Nat
  kind : Nat
  areaMin : Nat
  areaMax : Nat
  strengthMin : Bands
  qLow : Nat
  qHigh : Nat
  deriving DecidableEq, Repr

/-- The signature entry of a row (R172). -/
def signatureEntry (r : Row) : SignatureEntry where
  enabled := bitAt r 0 0
  band := byteAt r 0 / 2 % 4
  kind := byteAt r 0 / 16
  areaMin := word16At r 1
  areaMax := word16At r 3
  strengthMin := ⟨word24At r 5, word24At r 8, word24At r 11⟩
  qLow := byteAt r 14
  qHigh := byteAt r 15

/-- A routing row (R76, R172). -/
structure RoutingRow where
  enabled : Bool
  verdicts : Nat
  corners : Nat
  kinds : Nat
  required : Byte
  forbidden : Byte
  lengthMin : Nat
  lengthMax : Nat
  path : Nat
  pattern : Option Nat
  primary : Nat
  alternate : Option Nat
  tally : Option Nat
  deriving DecidableEq, Repr

/-- The routing row of a row (R172). Bit 7 of the flag sets is unused. -/
def routingRow (r : Row) : RoutingRow where
  enabled := bitAt r 0 0
  verdicts := byteAt r 0 / 2 % 16
  corners := byteAt r 1
  kinds := word16At r 2
  required := BitVec.ofNat 8 (byteAt r 4 % 128)
  forbidden := BitVec.ofNat 8 (byteAt r 5 % 128)
  lengthMin := word16At r 6
  lengthMax := word16At r 8
  path := byteAt r 10
  pattern := optionalAt r 11
  primary := byteAt r 12
  alternate := optionalAt r 13
  tally := optionalAt r 14

/-- A print pattern (R97, R173). -/
structure PatternRow where
  pre : Nat
  post : Nat
  postmark : Nat
  least : Nat
  edge : Nat
  style : Nat
  deriving DecidableEq, Repr

/-- The print pattern of a row (R173). -/
def patternRow (r : Row) : PatternRow where
  pre := byteAt r 0
  post := byteAt r 1
  postmark := word16At r 2
  least := word16At r 4
  edge := byteAt r 6
  style := byteAt r 7

/-- A STACKER row (R128, R173). -/
structure StackerRow where
  diverter : Nat
  arrival : Nat
  tolerance : Nat
  capacity : Nat
  warn : Nat
  nearPattern : Option Nat
  fullPattern : Option Nat
  deriving DecidableEq, Repr

/-- The STACKER row of a row (R173). -/
def stackerRow (r : Row) : StackerRow where
  diverter := word16At r 0
  arrival := word16At r 2
  tolerance := word16At r 4
  capacity := word16At r 6
  warn := word16At r 8
  nearPattern := optionalAt r 10
  fullPattern := optionalAt r 11

/-- The fields of GEOMETRY (R6, R174). -/
structure Geometry where
  dGate : Nat
  lGate : Nat
  sGate : Nat
  minLength : Nat
  maxLength : Nat
  minGap : Nat
  dcStraight : Nat
  dcTurn : Nat
  turnScale : Nat
  lPrint : Nat
  rHead : Nat
  restartDelay : Nat
  faultWindow : Nat
  purgeTimeout : Nat
  stackMargin : Nat
  deriving DecidableEq, Repr

/-- The GEOMETRY fields of four rows (R174). -/
def geometryOf (ts : Tables) : Geometry :=
  let r0 := tableRow ts .geometry 0
  let r1 := tableRow ts .geometry 1
  let r2 := tableRow ts .geometry 2
  let r3 := tableRow ts .geometry 3
  { dGate := word16At r0 0, lGate := word16At r0 2, sGate := word16At r0 4, minLength := word16At r0 6,
    maxLength := word16At r0 8, minGap := word16At r0 10, dcStraight := word16At r1 0, dcTurn := word16At r1 2,
    turnScale := word16At r1 4, lPrint := word16At r1 6, rHead := word16At r1 8, restartDelay := word16At r2 0,
    faultWindow := word16At r2 2, purgeTimeout := word16At r2 4, stackMargin := byteAt r3 0 }

/-- The fields of SCANSET (R55, R174). The cell sets hold bit c for cell c. -/
structure Scanset where
  window : Nat
  upper : Nat
  lower : Nat
  gap : Nat
  hit : Bands
  deriving DecidableEq, Repr

/-- The SCANSET fields of two rows (R174). -/
def scansetOf (ts : Tables) : Scanset :=
  let r0 := tableRow ts .scanset 0
  let r1 := tableRow ts .scanset 1
  { window := byteAt r0 0, upper := byteAt r0 1, lower := byteAt r0 2, gap := byteAt r0 3,
    hit := ⟨word16At r1 0, word16At r1 2, word16At r1 4⟩ }

/-- Office number, lane number and cutover hour (R166, R174). -/
def officeNumber (ts : Tables) : Nat := word24At (tableRow ts .office 0) 0

@[inherit_doc officeNumber]
def laneNumber (ts : Tables) : Nat := byteAt (tableRow ts .office 0) 3

@[inherit_doc officeNumber]
def cutoverHour (ts : Tables) : Nat := byteAt (tableRow ts .office 0) 4

/-- A station number of OFFICE row 1 (R166, R174). -/
def officeStation (ts : Tables) (k : Nat) : Station := BitVec.ofNat 5 (byteAt (tableRow ts .office 1) k)

/-- The controller station (R166). -/
def controllerStation (ts : Tables) : Station := officeStation ts 0

/-- The gate station (R166). -/
def gateStation (ts : Tables) : Station := officeStation ts 1

/-- The station of a head (R166). -/
def headStation (ts : Tables) (h : Fin 4) : Station := officeStation ts (2 + h.val)

/-- The path a stacker lies on: 0 to 3 STRAIGHT, 4 to 7 TURN (R76). -/
def stackerPath (n : Fin 8) : Path := if n.val < 4 then .straight else .turn

/-- The residue stacker of a path (R131). -/
def residueStacker : Path → Fin 8
  | .straight => 0
  | .turn => 4

/-- Stackers 0 and 4 are the residue stackers. -/
def isResidue (n : Fin 8) : Bool := n = 0 || n = 4

/-- The stacker station that serves a stacker (R127, R166). -/
def stackerStation (ts : Tables) (n : Fin 8) : Station :=
  match stackerPath n with
  | .straight => officeStation ts 6
  | .turn => officeStation ts 7

/-- The sixteen steps of a lamp pattern (R138, R173). -/
def lampSteps (ts : Tables) (p : Nat) : Nat := word16At (tableRow ts .lamp 0) (2 * p)

/-- The stacker of a number; numbers above 7 do not occur in rows that a commit accepts. -/
def stackerOf (n : Nat) : Fin 8 := ⟨n % 8, Nat.mod_lt n (by decide)⟩

/-- The pattern of a number; numbers above 7 do not occur in rows that a commit accepts. -/
def patternOf (n : Nat) : Fin 8 := ⟨n % 8, Nat.mod_lt n (by decide)⟩

/-- The path of a path code; codes above 1 do not occur in enabled rows that a commit accepts (R77). -/
def pathOf (c : Nat) : Path := if c = 0 then .straight else .turn

/-! ## Path distance conversion (R10) -/

/-- The conversion of a distance in the counts of a path to main counts (R10). -/
def convert (dGate scale : Nat) (p : Path) (d : Nat) : Nat :=
  match p with
  | .straight => d
  | .turn => if d < dGate then d else dGate + ((d - dGate) * scale + 2048) / 4096

/-- The derived distances of a GEOMETRY commit (R11). -/
def laneDistances (g : Geometry) : LaneDistances where
  deadline := g.dGate - g.lGate
  retire := g.dGate
  cancelStraight := g.dcStraight
  cancelTurn := convert g.dGate g.turnScale .turn g.dcTurn

/-- The derived distances of stacker n (R11). -/
def stackerDistance (ts : Tables) (n : Fin 8) : StackerDistance :=
  let g := geometryOf ts
  let r := stackerRow (tableRow ts .stacker n.val)
  { arrival := convert g.dGate g.turnScale (stackerPath n) r.arrival
    diverter := convert g.dGate g.turnScale (stackerPath n) r.diverter }

/-- The derived distances of the eight stackers (R11). -/
def stackerDistances (ts : Tables) : Vector StackerDistance 8 := Vector.ofFn fun n => stackerDistance ts n

end Sys2Proof.Machine
end

