-- ==== Sys2Proof/Machine/Ops.lean ====
section
/-! DEFINITION. The named updates of the state and the queues of the ring port: joining, the grant of the output and the waiting
places (R178 to R180), with the layouts of the frames the part sends (R190). -/

namespace Sys2Proof.Machine

/-! ## Updates of one block -/

/-- The position unit replaced. -/
def State.withPosition (s : State) (x : PositionUnit) : State := { s with position := x }

/-- The letter track replaced. -/
def State.withTrack (s : State) (x : LetterTrack) : State := { s with track := x }

/-- The scan unit replaced. -/
def State.withScan (s : State) (x : ScanUnit) : State := { s with scan := x }

/-- The evaluation unit replaced. -/
def State.withEval (s : State) (x : EvaluationUnit) : State := { s with eval := x }

/-- The routing unit replaced. -/
def State.withRouting (s : State) (x : RoutingUnit) : State := { s with routing := x }

/-- The cancel heads replaced. -/
def State.withHeads (s : State) (x : Vector Head 4) : State := { s with heads := x }

/-- The clock replaced. -/
def State.withClock (s : State) (x : Clock) : State := { s with clock := x }

/-- The stackers replaced. -/
def State.withStackers (s : State) (x : Vector Stacker 8) : State := { s with stackers := x }

/-- The tally unit replaced. -/
def State.withTally (s : State) (x : TallyUnit) : State := { s with tally := x }

/-- The table store replaced. -/
def State.withStore (s : State) (x : TableStore) : State := { s with store := x }

/-- The condition unit replaced. -/
def State.withCond (s : State) (x : ConditionUnit) : State := { s with cond := x }

/-- The ring port replaced. -/
def State.withRing (s : State) (x : RingPort) : State := { s with ring := x }

/-- The timebase replaced. -/
def State.withTime (s : State) (x : TimeBase) : State := { s with time := x }

/-- The count of settled choices replaced. -/
def State.withChoices (s : State) (x : Nat) : State := { s with choices := x }

/-- The queue of commands replaced. -/
def State.withPending (s : State) (x : List Instr) : State := { s with pending := x }

/-- One head changed. -/
def modifyHead (h : Fin 4) (f : Head → Head) (s : State) : State := s.withHeads (updateAt s.heads h f)

/-- One stacker changed. -/
def modifyStacker (n : Fin 8) (f : Stacker → Stacker) (s : State) : State := s.withStackers (updateAt s.stackers n f)

/-- The link counters changed. -/
def modifyCounters (f : LinkCounters → LinkCounters) (s : State) : State :=
  s.withRing { s.ring with counters := f s.ring.counters }

/-! ## The frames the part sends (R190, R191) -/

/-- An ORDER's payload (R190). Bits 3, 6 and 7 of byte 9 of a PRINT are sent as 0, which R190 leaves open: DESIGN CHOICE
(notes/assumptions/35.md). -/
def orderPayload : Order → List Byte
  | .gate p x => 1 :: pathCode p :: posBytes x
  | .print h tag start len pat style day month year hour office lane =>
    2 :: BitVec.ofNat 8 h.val :: natBytes 2 tag.toNat ++ posBytes start ++ natBytes 2 len
      ++ [BitVec.ofNat 8 (pat.val + 16 * style), BitVec.ofNat 8 day, BitVec.ofNat 8 month, BitVec.ofNat 8 year,
        BitVec.ofNat 8 hour] ++ natBytes 3 office ++ [BitVec.ofNat 8 lane]
  | .stack n tag a b => 3 :: BitVec.ofNat 8 n.val :: natBytes 2 tag.toNat ++ posBytes a ++ posBytes b
  | .purge h => [4, BitVec.ofNat 8 h.val]
  | .abort h => [5, BitVec.ofNat 8 h.val]
  | .lamp n none _ => [6, BitVec.ofNat 8 n.val, 0xFF, 0, 0]
  | .lamp n (some p) steps => 6 :: BitVec.ofNat 8 n.val :: BitVec.ofNat 8 p :: natBytes 2 steps

/-- An order as the frame the part sends: its source is the part's own station (R87, R103, R135, R136). Bits 5 to 7 of both
station bytes are sent as 0, which R189 leaves open: DESIGN CHOICE (notes/assumptions/34.md). -/
def orderFrame (own : Station) (o : OrderFrame) : Frame := ⟨o.dest.setWidth 8, own.setWidth 8, 0x04, orderPayload o.order⟩

/-- An answer part or a notice as the frame the part sends (R182, R188, R190). Bits 5 to 7 of both station bytes are sent as 0,
which R189 leaves open: DESIGN CHOICE (notes/assumptions/34.md). -/
def replyFrame (own : Station) : Reply → Frame
  | .answer dest code status part last data =>
    ⟨dest.setWidth 8, own.setWidth 8, 0x07,
      code :: statusCode status :: BitVec.ofNat 8 (part + if last then 128 else 0) :: data⟩
  | .alert dest flag => ⟨dest.setWidth 8, own.setWidth 8, 0x08, [1, BitVec.ofNat 8 (flagNumber flag)]⟩
  | .halt dest .trackfull => ⟨dest.setWidth 8, own.setWidth 8, 0x08, [2, 1]⟩
  | .halt dest (.residuefull n) => ⟨dest.setWidth 8, own.setWidth 8, 0x08, [2, 2, BitVec.ofNat 8 n.val]⟩

/-! ## Capacities (R178) -/

/-- The forward queue holds up to 8 frames. -/
def forwardCapacity : Nat := 8

/-- The order queue holds up to 16 orders. -/
def orderCapacity : Nat := 16

/-- The answer queue holds up to 6 frames. -/
def answerCapacity : Nat := 6

/-- The ask intake holds up to 4 asks. -/
def intakeCapacity : Nat := 4

/-! ## The grant (R179, R180) -/

/-- The head frame of the forward queue is granted; the turn indicator becomes ANSWER (R179). -/
def grantForward (r : RingPort) : RingPort :=
  match r.forward with
  | [] => r
  | f :: rest => { r with forward := rest, sending := some f, turn := .answer }

/-- The head frame of the answer queue is granted; the turn indicator becomes FORWARD (R179). -/
def grantAnswer (r : RingPort) : RingPort :=
  match r.answers with
  | [] => r
  | a :: rest => { r with answers := rest, sending := some (replyFrame r.own a), turn := .forward }

/-- The head order is granted and the freed place goes to the order that has waited longest (R179, R180). -/
def grantOrder (r : RingPort) : RingPort :=
  match r.orders with
  | [] => r
  | o :: rest =>
    match r.waiting with
    | [] => { r with orders := rest, sending := some (orderFrame r.own o) }
    | w :: ws => { r with orders := rest ++ [w.order], waiting := ws, sending := some (orderFrame r.own o) }

/-- A grant at an IDLE output: the order queue first, then the favoured of the other two, then the one that holds a frame
(R179). A SENDING output grants nothing. -/
def grantRing (r : RingPort) : RingPort :=
  if r.sending.isSome then r
  else if r.orders ≠ [] then grantOrder r
  else if r.forward ≠ [] ∧ (r.answers = [] ∨ r.turn = .forward) then grantForward r
  else grantAnswer r

/-- The grant made at an event that finds the output IDLE (R179). -/
def grant (s : State) : State := s.withRing (grantRing s.ring)

/-- An order joins the tail of the order queue; an IDLE output grants at the joining (R179, notes/assumptions/9.md). -/
def joinOrder (o : OrderFrame) (s : State) : State :=
  grant (s.withRing { s.ring with orders := s.ring.orders ++ [o] })

/-- A frame joins the tail of the answer queue. -/
def joinAnswer (a : Reply) (s : State) : State :=
  grant (s.withRing { s.ring with answers := s.ring.answers ++ [a] })

/-- A frame joins the tail of the forward queue. -/
def joinForward (f : Frame) (s : State) : State :=
  grant (s.withRing { s.ring with forward := s.ring.forward ++ [f] })

/-! ## Issued orders and waiting places (R180) -/

/-- An order takes its waiting place; an order already there is replaced and the place keeps its age (R180). -/
def takePlace (p : WaitPlace) (o : OrderFrame) : List Waiting → List Waiting
  | [] => [⟨p, o⟩]
  | w :: ws => if w.place = p then ⟨p, o⟩ :: ws else w :: takePlace p o ws

/-- A LAMP, PURGE or ABORT order: it joins the order queue when that has a free place, and takes its waiting place otherwise
(R180). -/
def issueOrder (p : WaitPlace) (o : OrderFrame) (s : State) : State :=
  if s.ring.orders.length < orderCapacity then joinOrder o s
  else s.withRing { s.ring with waiting := takePlace p o s.ring.waiting }

/-- Free places of the order queue (R80). -/
def freeOrderPlaces (s : State) : Nat := orderCapacity - s.ring.orders.length

/-- Free places of the answer queue that no answer being formed has taken (R182). -/
def freeAnswerPlaces (s : State) : Nat := answerCapacity - (s.ring.answers.length + s.ring.reserved)

/-- The stray report count (R104, R107, R139, R143). -/
def countStrayReport (s : State) : State := modifyCounters (fun c => { c with strayReport := satInc16 c.strayReport }) s

/-- The unknown-kind count (R177). -/
def countUnknownKind (s : State) : State := modifyCounters (fun c => { c with unknownKind := satInc16 c.unknownKind }) s

end Sys2Proof.Machine
end

