-- ==== Sys2Proof/Machine/Flags.lean ====
section
/-! DEFINITION. The condition unit: flags, mask and notices (R186, R188), and the counting of tallies with its wrap (R149, R150). -/

namespace Sys2Proof.Machine

/-! ## Condition flags and notices -/

/-- A flag is set. -/
def flagSet (s : State) (f : ConditionFlag) : Bool := s.cond.flags.getLsbD (flagNumber f)

/-- A flag's masked indicator is set. -/
def flagMasked (s : State) (f : ConditionFlag) : Bool := s.cond.mask.getLsbD (flagNumber f)

/-- The bit of a flag (R189). -/
def flagBit (f : ConditionFlag) : BitVec 20 := BitVec.ofNat 20 (2 ^ flagNumber f)

/-- A flag is set without a notice. -/
def markFlag (f : ConditionFlag) (s : State) : State := s.withCond { s.cond with flags := s.cond.flags ||| flagBit f }

/-- A notice joins the answer queue, or finds it full: it is then not sent, the notice drop count rises and NOTICEDROP is set
(R188). -/
def sendNotice (n : Reply) (s : State) : State :=
  if freeAnswerPlaces s = 0 then
    markFlag .noticedrop (modifyCounters (fun c => { c with noticeDrop := satInc16 c.noticeDrop }) s)
  else joinAnswer n s

/-- The station that notices go to (R188). -/
def noticeStation (s : State) : Station := controllerStation s.store.tables

/-- A flag is set by the event its rule names: going from clear to set while unmasked it sends one ALERT; NOTICEDROP sends
none (R186). -/
def setFlag (f : ConditionFlag) (s : State) : State :=
  if flagSet s f then s
  else if flagMasked s f || decide (f = .noticedrop) then markFlag f s
  else sendNotice (.alert (noticeStation s) f) (markFlag f s)

/-- A HALT notice; the mask does not govern it (R188). -/
def sendHalt (c : HaltCause) (s : State) : State := sendNotice (.halt (noticeStation s) c) s

/-! ## Tallies -/

/-- A counter of the tally unit and its wrap mark after one count (R149, R150). -/
def countLive (t : TallyUnit) (i : Fin 64) : TallyUnit :=
  if t.live[i] = BitVec.allOnes 32 then
    { t with live := t.live.set i.val 0 i.isLt, liveMarks := t.liveMarks.set i.val true i.isLt }
  else { t with live := t.live.set i.val (t.live[i] + 1) i.isLt }

/-- One count: a wrap also sets TALLYWRAP (R150). -/
def count (i : Fin 64) (s : State) : State :=
  let s' := s.withTally (countLive s.tally i)
  if s.tally.live[i] = BitVec.allOnes 32 then setFlag .tallywrap s' else s'

/-- A count within the first step of a lane reset, which sets no condition flag (R185, notes/assumptions/12.md). -/
def countQuiet (i : Fin 64) (s : State) : State := s.withTally (countLive s.tally i)

/-- The counters of R146. -/
def tallyEntered : Fin 64 := 0

@[inherit_doc tallyEntered]
def tallyLate : Fin 64 := 4

@[inherit_doc tallyEntered]
def tallyForced : Fin 64 := 5

@[inherit_doc tallyEntered]
def tallyNoprint : Fin 64 := 6

@[inherit_doc tallyEntered]
def tallyPrintfail : Fin 64 := 7

@[inherit_doc tallyEntered]
def tallyPrinted : Fin 64 := 8

@[inherit_doc tallyEntered]
def tallyStray : Fin 64 := 9

@[inherit_doc tallyEntered]
def tallyUntracked : Fin 64 := 10

@[inherit_doc tallyEntered]
def tallyFulldivert : Fin 64 := 11

@[inherit_doc tallyEntered]
def tallyUnrouted : Fin 64 := 12

/-- The tally of a retirement's cause (R19). -/
def tallyOfRetirement : Retirement → Fin 64
  | .delivered => 1
  | .lost => 2
  | .abandoned => 3

/-- The tally of a mark kind, 13 + k (R73). -/
def tallyOfKind (k : Nat) : Fin 64 := ⟨(13 + k) % 64, Nat.mod_lt _ (by decide)⟩

/-- The tally of arrivals at a stacker, 29 + n (R139). -/
def tallyOfArrival (n : Fin 8) : Fin 64 := ⟨29 + n.val, by omega⟩

/-- The row tally of an index (R148); indexes outside 37 to 63 do not occur in enabled rows that a commit accepts (R77). -/
def tallyOfRow (i : Nat) : Fin 64 := ⟨i % 64, Nat.mod_lt _ (by decide)⟩

end Sys2Proof.Machine
end

