-- ==== Sys2Proof/Machine/Stackers.lean ====
section
/-! DEFINITION. The stacker unit: counts, lamp conditions, LAMP orders, reservations, sweeps (chapter 8). -/

namespace Sys2Proof.Machine

/-- The STACKER row of a stacker in force. -/
def stackerInForce (s : State) (n : Fin 8) : StackerRow := stackerRow (tableRow s.store.tables .stacker n.val)

/-- A stacker's committed count: its in-flight count plus its arrived count (R127). -/
def committedOf (k : Stacker) : Nat := k.inFlight + k.arrived.toNat

/-- The committed count of stacker n. -/
def committed (s : State) (n : Fin 8) : Nat := committedOf s.stackers[n]

/-- The lamp condition of a committed count, under a capacity and a warn level (R136). -/
def lampCondition (capacity warn c : Nat) : LampCondition :=
  if 0 < capacity ∧ capacity ≤ c then .full
  else if 0 < capacity ∧ 0 < warn ∧ warn ≤ c then .near
  else .normal

/-- The lamp condition that stacker n's counts give (R136). -/
def lampConditionOf (s : State) (n : Fin 8) : LampCondition :=
  lampCondition (stackerInForce s n).capacity (stackerInForce s n).warn (committed s n)

/-- The pattern that stacker n's row names for a condition; NORMAL has none (R136). -/
def lampPatternFor (s : State) (n : Fin 8) : LampCondition → Option Nat
  | .normal => none
  | .near => (stackerInForce s n).nearPattern
  | .full => (stackerInForce s n).fullPattern

/-- The LAMP order of stacker n for a condition: a pattern with its sixteen steps, or OFF (R136). -/
def lampOrder (s : State) (n : Fin 8) (c : LampCondition) : OrderFrame :=
  { dest := stackerStation s.store.tables n
    order := .lamp n (lampPatternFor s n c)
      (match lampPatternFor s n c with | none => 0 | some p => lampSteps s.store.tables p) }

/-- A LAMP order for the condition that stacker n holds (R136). -/
def issueLamp (n : Fin 8) (s : State) : State := issueOrder (.lamp n) (lampOrder s n s.stackers[n].lamp) s

/-- The flag, and for a residue stacker the HALT notice, of an entry into FULL (R137). -/
def enterFull (n : Fin 8) (s : State) : State :=
  if isResidue n then sendHalt (.residuefull n) (setFlag .residuefull s) else setFlag .stackfull s

/-- The lamp condition of stacker n recomputed: a change replaces the held condition, issues a LAMP order, and on entry into
FULL has the effects of R137 (R136). -/
def recomputeLamp (n : Fin 8) (s : State) : State :=
  let c := lampConditionOf s n
  if c = s.stackers[n].lamp then s
  else
    let s := issueLamp n (modifyStacker n (fun k => { k with lamp := c }) s)
    if c = .full then enterFull n s else s

/-- Every lamp condition recomputed, in stacker order (R129, R142). -/
def recomputeLamps (s : State) : State := (List.finRange 8).foldl (fun s n => recomputeLamp n s) s

/-- A LAMP order for each stacker whose held condition shows a pattern, in stacker order (R138). -/
def reissueLamps (s : State) : State :=
  (List.finRange 8).foldl
    (fun s n => if (lampPatternFor s n s.stackers[n].lamp).isSome then issueLamp n s else s) s

/-- The arrival distance of stacker n in main counts (R11). -/
def arrivalDistance (s : State) (n : Fin 8) : Nat :=
  match s.position.stackers with
  | none => 0
  | some d => d[n].arrival

/-- The diverter distance of stacker n in main counts (R11). -/
def diverterDistance (s : State) (n : Fin 8) : Nat :=
  match s.position.stackers with
  | none => 0
  | some d => d[n].diverter

/-- The arrival window at stacker n of a letter with the given leading position (R133). -/
def arrivalWindow (s : State) (n : Fin 8) (leading : Pos) : ArrivalWindow :=
  let t := (stackerInForce s n).tolerance
  { start := subDistance (addDistance leading (arrivalDistance s n)) t
    stop := addDistance (addDistance leading (arrivalDistance s n)) t }

/-- A reservation's count (R133); its lamp is recomputed by the caller when the letter's orders have joined. -/
def reserve (n : Fin 8) (s : State) : State := modifyStacker n (fun k => { k with inFlight := k.inFlight + 1 }) s

/-- Stacker n is taken by a row request: the residue stacker of p without test, another when it lies on p, is enabled and has
room (R132). -/
def takesLetter (s : State) (p : Path) (n : Fin 8) : Bool :=
  decide (n = residueStacker p)
    || (decide (stackerPath n = p) && decide (0 < (stackerInForce s n).capacity)
      && decide (committed s n < (stackerInForce s n).capacity))

/-- The answer to a row request: the primary, the alternate, or none where the residue stacker is taken with cause FULL
(R132). -/
def rowRequest (s : State) (p : Path) (primary : Fin 8) (alternate : Option (Fin 8)) : Option (Fin 8) :=
  if takesLetter s p primary then some primary
  else
    match alternate with
    | some a => if takesLetter s p a then some a else none
    | none => none

/-- The stacker unit's share of a retirement: the counts of the letter's stacker (R130). -/
def retireFrom (n : Fin 8) (cause : Retirement) (s : State) : State :=
  modifyStacker n
    (fun k => { k with
      inFlight := k.inFlight - 1
      arrived := if cause = .delivered then satInc32 k.arrived else k.arrived }) s

/-- A sweep of stacker n (R143). -/
def sweep (n : Fin 8) (s : State) : State :=
  recomputeLamp n (modifyStacker n (fun k => { k with arrived := 0 }) s)

/-- Whether a LAMP order waits for stacker n (R127, R144). -/
def lampWaiting (s : State) (n : Fin 8) : Bool := s.ring.waiting.any fun w => decide (w.place = .lamp n)

/-- What a SWEPT report does (R143). -/
def sweptReport (stacker : Byte) (s : State) : State :=
  if h : stacker.toNat < 8 then sweep ⟨stacker.toNat, h⟩ s else countStrayReport s

end Sys2Proof.Machine
end

