-- ==== Sys2Proof/Machine/TableStore.lean ====
section
/-! DEFINITION. The table store: the validation of each table's rows, the load transaction's commit and its effects (R7 to R9,
R56, R65, R77, R97, R129, R138, R159 to R166). -/

namespace Sys2Proof.Machine

/-- A table's committed indicator. -/
def isCommitted (st : TableStore) (t : TableId) : Bool := st.committed[tableNumber t]

/-- A table is in the protected set (R167). -/
def isProtected (st : TableStore) (t : TableId) : Bool := st.protectedSet.getLsbD (tableNumber t).val

/-! ## Row validation -/

/-- A number lies in a range. -/
def inRange (lo hi x : Nat) : Bool := decide (lo ≤ x ∧ x ≤ hi)

/-- A field that is none or at most a limit. -/
def noneOrAtMost (limit : Nat) : Option Nat → Bool
  | none => true
  | some x => decide (x ≤ limit)

/-- A good SIGNATURE row (R65). -/
def goodSignature (e : SignatureEntry) : Bool :=
  !e.enabled
    || (decide (e.kind ≠ 0) && decide (e.band ≤ 2) && decide (e.areaMin ≤ e.areaMax) && decide (e.areaMax ≤ 768)
      && decide (e.qLow ≤ e.qHigh))

/-- A stacker number at most 7 that lies on the path of a path code (R77). -/
def onPath (path n : Nat) : Bool := decide (n ≤ 7) && decide (n / 4 = path)

/-- A good ROUTING row (R77). -/
def goodRouting (r : RoutingRow) : Bool :=
  !r.enabled
    || (decide (r.lengthMin ≤ r.lengthMax) && decide (r.lengthMax ≤ 4095) && decide (r.path ≤ 1)
      && noneOrAtMost 7 r.pattern && onPath r.path r.primary
      && (match r.alternate with
        | none => true
        | some a => onPath r.path a && decide (a ≠ r.primary))
      && (match r.tally with
        | none => true
        | some t => inRange 37 63 t))

/-- A good PATTERN row (R97). -/
def goodPattern (r : PatternRow) : Bool :=
  decide (r.postmark ≤ 1023) && (decide (r.least = 0) || inRange 16 1023 r.least) && decide (r.style ≤ 2)

/-- The stacker distances of stacker n pass R9 under given distances, D_gate and tolerance. -/
def goodDistances (n : Fin 8) (dGate : Nat) (d : StackerDistance) (tolerance : Nat) : Bool :=
  decide (d.arrival + tolerance ≤ 24575)
    && (isResidue n || (decide (dGate < d.diverter) && decide (d.diverter < d.arrival)))

/-- Stacker n's distances in the given tables pass R9. -/
def distancesPass (ts : Tables) (n : Fin 8) : Bool :=
  goodDistances n (geometryOf ts).dGate (stackerDistance ts n) (stackerRow (tableRow ts .stacker n.val)).tolerance

/-- A good STACKER row n in the candidate tables (R129). -/
def goodStacker (s : State) (ts : Tables) (n : Fin 8) : Bool :=
  let r := stackerRow (tableRow ts .stacker n.val)
  (isResidue n || decide (r.diverter ≤ 24575)) && decide (r.arrival ≤ 24575) && inRange 8 1023 r.tolerance
    && decide (r.capacity ≤ 4000) && decide (r.warn ≤ r.capacity)
    && noneOrAtMost 3 r.nearPattern && noneOrAtMost 3 r.fullPattern
    && (decide (committed s n ≤ r.capacity) || (isResidue n && decide (r.capacity = 0)))
    && (!isCommitted s.store .geometry || distancesPass ts n)

/-- A good GEOMETRY row i in the candidate tables: its ranges and its cross-check (R6, R7, R8). -/
def goodGeometry (s : State) (ts : Tables) (i : Nat) : Bool :=
  let g := geometryOf ts
  if i = 0 then
    inRange 1000 8000 g.dGate && inRange 16 1000 g.lGate && inRange 16 1000 g.sGate && inRange 400 1200 g.minLength
      && inRange g.minLength 2000 g.maxLength && decide (g.minGap ≤ 1000)
      && decide (g.maxLength + 64 + g.lGate ≤ g.dGate)
  else if i = 1 then
    decide (g.dcStraight ≤ 16000) && decide (g.dcTurn ≤ 16000) && inRange 3686 4506 g.turnScale
      && inRange 16 2000 g.lPrint && decide (g.rHead ≤ 400)
      && decide (g.dGate < g.dcStraight) && decide (g.dGate < convert g.dGate g.turnScale .turn g.dcTurn)
  else if i = 2 then
    inRange 100 30000 g.restartDelay && decide (g.faultWindow ≤ 60000) && inRange 1000 60000 g.purgeTimeout
  else
    decide (g.stackMargin ≤ 64)
      && (!isCommitted s.store .stacker || (List.finRange 8).all fun n => distancesPass ts n)

/-- A good SCANSET row i (R55, R56). -/
def goodScanset (ts : Tables) (i : Nat) : Bool :=
  let k := scansetOf ts
  if i = 0 then
    inRange 16 96 k.window && decide (k.upper ≠ 0) && decide (k.lower ≠ 0) && decide (k.gap ≤ 64)
  else inRange 1 1023 k.hit.glow && inRange 1 1023 k.hit.fluor && inRange 1 1023 k.hit.red

/-- A good OFFICE row i for a part with the given station number (R166). -/
def goodOffice (own : Station) (ts : Tables) (i : Nat) : Bool :=
  if i = 0 then
    decide (officeNumber ts ≤ 99999) && decide (laneNumber ts ≤ 15) && decide (cutoverHour ts ≤ 23)
  else
    (List.range 8).all fun k =>
      let n := byteAt (tableRow ts .office 1) k
      decide (n ≤ 30) && decide (n ≠ own.toNat)

/-- Row i of a table passes its validation in the candidate tables (R158, R162). LAMP has no bad row (R138). -/
def goodRow (s : State) (ts : Tables) (t : TableId) (i : Nat) : Bool :=
  match t with
  | .signature => goodSignature (signatureEntry (tableRow ts .signature i))
  | .routing => goodRouting (routingRow (tableRow ts .routing i))
  | .pattern => goodPattern (patternRow (tableRow ts .pattern i))
  | .stacker => goodStacker s ts (stackerOf i)
  | .geometry => goodGeometry s ts i
  | .scanset => goodScanset ts i
  | .office => goodOffice s.ring.own ts i
  | .lamp => true

/-- The first bad row of a table in the candidate tables, in row order (R162). -/
def firstBadRow (s : State) (ts : Tables) (t : TableId) : Option Nat :=
  (List.range (rowCount t)).find? fun i => !goodRow s ts t i

/-! ## The load (R159 to R164) -/

/-- The received count of a load (R157). -/
def receivedCount (l : Load) : Nat := l.rows.length

/-- The open load replaced; none is NONE. -/
def setLoad (l : Option Load) (s : State) : State := s.withStore { s.store with load := l }

/-- A load aborted: the staging buffer is emptied, the context becomes NONE and LOADERR is set (R164). -/
def abortLoad (s : State) : State := setFlag .loaderr (setLoad none s)

/-- The derived distances formed anew by a commit of GEOMETRY or STACKER (R11): the stacker distances when both tables are
committed. -/
def formDistances (t : TableId) (s : State) : State :=
  let ts := s.store.tables
  let lane := if t = .geometry then some (laneDistances (geometryOf ts)) else s.position.lane
  let stackers :=
    if isCommitted s.store .geometry && isCommitted s.store .stacker then some (stackerDistances ts) else s.position.stackers
  s.withPosition { s.position with lane := lane, stackers := stackers }

/-- The effects that the owning chapter gives for a commit of a table (R163 step 4). -/
def commitEffects (t : TableId) (s : State) : State :=
  match t with
  | .geometry => formDistances .geometry s
  | .stacker => recomputeLamps (formDistances .stacker s)
  | .lamp => reissueLamps s
  | .signature => s
  | .routing => s
  | .pattern => s
  | .scanset => s
  | .office => s

/-- A commit that passes every test (R163): the staged rows replace the live rows, the table is COMMITTED, the load ends, and
the owning chapter's effects follow. -/
def commitLoad (l : Load) (s : State) : State :=
  commitEffects l.table
    (s.withStore { s.store with
      tables := overlay s.store.tables l
      committed := s.store.committed.set (tableNumber l.table).val true (tableNumber l.table).isLt
      load := none })

end Sys2Proof.Machine
end

