-- ==== Sys2Proof/Machine/Clock.lean ====
section
/-! DEFINITION. The postmark clock: calendar, second events and the postmark (chapter 7). -/

namespace Sys2Proof.Machine

/-- A leap year of 2000 to 2099 (R118). -/
def leapYear (y : Nat) : Bool := decide (y % 4 = 0)

/-- The length of a month (R118). -/
def monthLength (y m : Nat) : Nat :=
  if m = 2 then (if leapYear y then 29 else 28)
  else if m = 4 ∨ m = 6 ∨ m = 9 ∨ m = 11 then 30 else 31

/-- A calendar date. -/
structure Date where
  year : Nat
  month : Nat
  day : Nat
  deriving DecidableEq, Repr

/-- The calendar day after a date (R117 steps 4 to 6, R124). -/
def nextDay (d : Date) : Date :=
  if d.day + 1 ≤ monthLength d.year d.month then { d with day := d.day + 1 }
  else if d.month + 1 ≤ 12 then { d with day := 1, month := d.month + 1 }
  else if d.year + 1 ≤ 99 then ⟨d.year + 1, 1, 1⟩ else ⟨0, 1, 1⟩

/-- The clock's date. -/
def dateOf (c : Clock) : Date := ⟨c.year, c.month, c.day⟩

/-- The day of week after one day: from 7 to 1 (R119). -/
def nextDayOfWeek (w : Nat) : Nat := if w = 7 then 1 else w + 1

/-- A carried day of the clock (R117 steps 4 to 6, R119). -/
def carryDay (c : Clock) : Clock :=
  let d := nextDay (dateOf c)
  { c with year := d.year, month := d.month, day := d.day, dayOfWeek := nextDayOfWeek c.dayOfWeek }

/-- A carried hour (R117 step 3). -/
def carryHour (c : Clock) : Clock := if c.hour + 1 = 24 then carryDay { c with hour := 0 } else { c with hour := c.hour + 1 }

/-- A carried minute (R117 step 2). -/
def carryMinute (c : Clock) : Clock :=
  if c.minute + 1 = 60 then carryHour { c with minute := 0 } else { c with minute := c.minute + 1 }

/-- The clock advanced by one second (R117). -/
def advanceSecond (c : Clock) : Clock :=
  if c.second + 1 = 60 then carryMinute { c with second := 0 } else { c with second := c.second + 1 }

/-- The postmark's date for a cutover hour (R124). -/
def postmarkDate (c : Clock) (cutover : Nat) : Date :=
  if 0 < cutover ∧ cutover ≤ c.hour then nextDay (dateOf c) else dateOf c

/-- A second event: the second phase has returned to 0 and the clock advances by one second (R116, R117). -/
def secondEventAt (s : State) : State := s.withClock { advanceSecond s.clock with phase := 0 }

/-- The order number of the first field of a CLOCK SET that fails its test, or 0 (R121). -/
def clockSetFailure (year month day hour minute second dayOfWeek : Nat) : Nat :=
  if 99 < year then 1
  else if month = 0 ∨ 12 < month then 2
  else if day = 0 ∨ monthLength year month < day then 3
  else if 23 < hour then 4
  else if 59 < minute then 5
  else if 59 < second then 6
  else if dayOfWeek = 0 ∨ 7 < dayOfWeek then 7
  else 0

end Sys2Proof.Machine
end

