-- ==== Sys2Proof/Machine/Letters.lean ====
section
/-! DEFINITION. Letter records looked up and changed in the track (R15, R16). -/

namespace Sys2Proof.Machine

/-- The letter of a sequence number in the track. -/
def findLetter (s : State) (q : Seq) : Option Letter := s.track.letters.find? fun l => l.seq = q

/-- The records of a sequence number changed. -/
def modifyLetter (q : Seq) (f : Letter → Letter) (s : State) : State :=
  s.withTrack { s.track with letters := s.track.letters.map fun l => if l.seq = q then f l else l }

/-- The letter that is OPEN, of which the track holds at most one (R15). -/
def openLetter (s : State) : Option Letter := s.track.letters.find? fun l => l.state = .opened

/-- A letter's trailing position: its leading position plus its length (R12). -/
def trailingOf (l : Letter) : Pos := addDistance l.leading (l.length.getD 0)

/-- The print of a letter takes a status. -/
def setPrintStatus (q : Seq) (st : PrintStatus) (s : State) : State :=
  modifyLetter q (fun l => { l with print := l.print.map fun p => { p with status := st } }) s

/-- A letter's state. -/
def setLetterState (q : Seq) (st : LetterState) (s : State) : State := modifyLetter q (fun l => { l with state := st }) s

end Sys2Proof.Machine
end

