-- ==== Sys2Proof/Machine/Evaluation.lean ====
section
/-! DEFINITION. The evaluation unit: matching windows with signatures, the verdict, the queue and its start (chapter 4). -/

namespace Sys2Proof.Machine

/-! ## Matching one window (R66, R67) -/

/-- The value of a band code: 0 GLOW, 1 FLUOR, 2 RED. An enabled entry that a commit accepts has no other (R65). -/
def bandOf (b : Bands) (code : Nat) : Nat := if code = 0 then b.glow else if code = 1 then b.fluor else b.red

/-- A window matches a signature entry (R66). -/
def matchesEntry (w : WindowRecord) (e : SignatureEntry) : Bool :=
  e.enabled
    && decide (e.areaMin ≤ bandOf w.sum.area e.band ∧ bandOf w.sum.area e.band ≤ e.areaMax)
    && decide (e.strengthMin.glow ≤ w.sum.strength.glow ∧ e.strengthMin.fluor ≤ w.sum.strength.fluor
      ∧ e.strengthMin.red ≤ w.sum.strength.red)
    && decide (e.qLow ≤ w.q ∧ w.q ≤ e.qHigh)

/-- Signature entry i in force (R64). -/
def entryInForce (ts : Tables) (i : Nat) : SignatureEntry := signatureEntry (tableRow ts .signature i)

/-- The index of the first entry a window matches (R67). -/
def markOf (ts : Tables) (w : WindowRecord) : Option Nat :=
  (List.range 16).find? fun i => matchesEntry w (entryInForce ts i)

/-! ## Choosing the corner (R68 to R71) -/

/-- The facing corners (R68). -/
def facingCorners : List Corner := [.ftl, .fbt, .rtt, .rbl]

/-- The odd corners (R68). -/
def oddCorners : List Corner := [.ftt, .fbl, .rtl, .rbt]

/-- A marked window of a stage: its corner, its signature index and its record. -/
structure Candidate where
  corner : Corner
  index : Nat
  record : WindowRecord
  deriving DecidableEq, Repr

/-- The marked windows among some corners (R68). -/
def candidates (ts : Tables) (ws : Vector WindowRecord 8) (corners : List Corner) : List Candidate :=
  corners.filterMap fun c => (markOf ts ws[cornerNumber c]).map fun i => ⟨c, i, ws[cornerNumber c]⟩

/-- The lowest signature index of some candidates (R69). -/
def lowestIndex : List Candidate → Nat
  | [] => 0
  | [c] => c.index
  | c :: cs => min c.index (lowestIndex cs)

/-- The candidates that remain after step 1 of R69. -/
def remaining (cs : List Candidate) : List Candidate := cs.filter fun c => c.index = lowestIndex cs

/-- The area of a candidate in the area band of its entry (R69). -/
def areaOf (ts : Tables) (c : Candidate) : Nat := bandOf c.record.sum.area (entryInForce ts c.index).band

/-- The winner of some candidates: the one whose area no other remaining candidate reaches (R69). -/
def winner (ts : Tables) (cs : List Candidate) : Option Candidate :=
  (remaining cs).find? fun c =>
    (remaining cs).all fun d => decide (d.corner = c.corner) || decide (areaOf ts d < areaOf ts c)

/-- The verdict of a stage with candidates: its kind with a winner, AMBIGUOUS on a tie (R70). -/
def stageVerdict (ts : Tables) (kind : VerdictKind) (cs : List Candidate) : Verdict :=
  match winner ts cs with
  | some c => ⟨kind, some c.corner, (entryInForce ts c.index).kind, some c.index, c.record.sum.span⟩
  | none => ⟨.ambiguous, none, (entryInForce ts (lowestIndex cs)).kind, some (lowestIndex cs), none⟩

/-- The verdict of eight window records, and whether the deciding stage had two or more candidates (R68, R70, R71). -/
def verdictOf (ts : Tables) (ws : Vector WindowRecord 8) : Verdict × Bool :=
  let facing := candidates ts ws facingCorners
  let odd := candidates ts ws oddCorners
  if facing ≠ [] then (stageVerdict ts .faced facing, decide (2 ≤ facing.length))
  else if odd ≠ [] then (stageVerdict ts .odd odd, decide (2 ≤ odd.length))
  else (⟨.none, none, 0, none, none⟩, false)

/-! ## The queue and the start (R59, R60) -/

/-- An evaluation starts: the head of the queue becomes the subject, EVALUATING, and the unit BUSY (R60). -/
def startEvaluation (s : State) : State :=
  match s.eval.queue with
  | [] => s
  | q :: rest => setLetterState q .evaluating (s.withEval { busy := true, subject := some q, queue := rest })

/-- A closed letter becomes QUEUED and joins the tail of the queue; an IDLE unit takes it up in the same event (R59, R60). -/
def queueLetter (q : Seq) (s : State) : State :=
  let s := setLetterState q .queued (s.withEval { s.eval with queue := s.eval.queue ++ [q] })
  if s.eval.busy then s else startEvaluation s

/-- A letter leaves the queue at its deadline (R63). -/
def dropFromQueue (q : Seq) (s : State) : State := s.withEval { s.eval with queue := s.eval.queue.filter fun x => x ≠ q }

/-- A retired letter is no subject any more; the unit stays BUSY (R58). -/
def forgetSubject (q : Seq) (s : State) : State :=
  if s.eval.subject = some q then s.withEval { s.eval with subject := none } else s

/-- The unit becomes IDLE and takes up the next queued letter (R61 step 5, R62). -/
def releaseSubject (s : State) : State := startEvaluation (s.withEval { s.eval with busy := false, subject := none })

end Sys2Proof.Machine
end

