-- ==== Sys2Proof/Machine/Heads.lean ====
section
/-! DEFINITION. The cancel unit: timers, faults, purges, booking lists and the actions of HEAD CONTROL (R95, R101 to R114). -/

namespace Sys2Proof.Machine

/-! ## Timers (R13) -/

/-- GEOMETRY is committed. -/
def geometryCommitted (s : State) : Bool := s.store.committed[tableNumber .geometry]

/-- The restart delay in force; 100 ms before GEOMETRY is committed (R13). -/
def restartDelay (s : State) : Nat := if geometryCommitted s then (geometryOf s.store.tables).restartDelay else 100

/-- The fault window in force; 0 ms before GEOMETRY is committed (R13). -/
def faultWindowLength (s : State) : Nat := if geometryCommitted s then (geometryOf s.store.tables).faultWindow else 0

/-- The purge timeout in force; 1,000 ms before GEOMETRY is committed (R13). -/
def purgeTimeoutLength (s : State) : Nat := if geometryCommitted s then (geometryOf s.store.tables).purgeTimeout else 1000

/-- A timer started with a duration (R13). -/
def startTimer (d : Nat) : Timer := ⟨d, d⟩

/-- The fault window that opens at the end of a rest; a duration of 0 opens none (R13, R106). -/
def openWindow (s : State) : Option Timer := if faultWindowLength s = 0 then none else some (startTimer (faultWindowLength s))

/-! ## Purging (R108 to R111) -/

/-- A PURGE order is issued, the purge timer starts and the head becomes PURGING (R109, R110). -/
def startPurge (h : Fin 4) (s : State) : State :=
  let s := issueOrder (.purge h) ⟨headStation s.store.tables h, .purge h⟩ s
  modifyHead h (fun k => { k with purge := some (startTimer (purgeTimeoutLength s)), state := .purging }) s

/-- A head in PURGE-WAIT whose list is empty proceeds to its purge (R110). -/
def proceedIfEmpty (h : Fin 4) (s : State) : State :=
  if s.heads[h].state = .purgeWait ∧ s.heads[h].bookings = [] then startPurge h s else s

/-! ## Booking lists (R101, R102, R106) -/

/-- A booking of a letter joins the tail of a head's list (R98, R101). -/
def addBooking (h : Fin 4) (b : Booking) (s : State) : State :=
  modifyHead h (fun k => { k with bookings := k.bookings ++ [b] }) s

/-- The bookings at the front of a list whose print end the belt has reached (R102). -/
def expired (belt : Pos) (bs : List Booking) : List Booking := bs.takeWhile fun b => atOrPast belt b.stop

/-- One expiry: the letter's print becomes DONE and PRINTED is counted (R102). -/
def expireBooking (s : State) (b : Booking) : State := count tallyPrinted (setPrintStatus b.tag .done s)

/-- The expiries of one head at an advance, in list order; the last one lets a head in PURGE-WAIT proceed (R102, R110). -/
def expireHead (h : Fin 4) (s : State) : State :=
  let gone := expired s.position.belt s.heads[h].bookings
  if gone = [] then s
  else
    let s := modifyHead h (fun k => { k with bookings := k.bookings.drop gone.length }) s
    proceedIfEmpty h (gone.foldl expireBooking s)

/-- The cancel unit's share of an advance (R4, R102), head by head (notes/assumptions/14.md). -/
def expireBookings (s : State) : State := (List.finRange 4).foldl (fun s h => expireHead h s) s

/-- One dropped booking: the letter's print becomes FAILED and PRINTFAIL is counted (R106). -/
def dropBooking (s : State) (b : Booking) : State := count tallyPrintfail (setPrintStatus b.tag .failed s)

/-- A drop of a head's bookings (R106). -/
def dropBookings (h : Fin 4) (s : State) : State :=
  let gone := s.heads[h].bookings
  let s := gone.foldl dropBooking (modifyHead h (fun k => { k with bookings := [] }) s)
  if gone = [] then s else setFlag .printfail s

/-- A retired letter's booking on one head is removed uncounted; a head in PURGE-WAIT whose list this empties proceeds (R19,
R110). -/
def removeBookingAt (q : Seq) (h : Fin 4) (s : State) : State :=
  if s.heads[h].bookings.any fun b => b.tag = q then
    proceedIfEmpty h (modifyHead h (fun k => { k with bookings := k.bookings.filter fun b => b.tag ≠ q }) s)
  else s

/-- A retired letter's booking is removed from whichever head holds it (R19). -/
def removeBooking (q : Seq) (s : State) : State := (List.finRange 4).foldl (fun s h => removeBookingAt q h s) s

/-- Every booking list emptied without a count; heads in PURGE-WAIT then proceed, in head order (R25, R110). -/
def emptyBookings (s : State) : State :=
  let s := s.withHeads (Vector.ofFn fun h => { s.heads[h] with bookings := [] })
  (List.finRange 4).foldl (fun s h => proceedIfEmpty h s) s

/-- Every head as a lane reset leaves it: the last purge outcome is kept (R95). -/
def resetHeads (s : State) : State :=
  s.withHeads (Vector.ofFn fun h => { Head.reset with lastPurge := s.heads[h].lastPurge })

/-! ## Reports (R104, R105, R107) -/

/-- The tag of a taken HEADFAULT: a DONE print of that letter on the reporting head becomes FAILED (R105). -/
def faultTag (h : Fin 4) (tag : Seq) (s : State) : State :=
  match findLetter s tag with
  | none => s
  | some l =>
    match l.print with
    | none => s
    | some p =>
      if p.head = h ∧ p.status = .done then
        setFlag .printfail (count tallyPrintfail (setPrintStatus tag .failed s))
      else s

/-- What follows the state change of a taken HEADFAULT: the HEADFAULT flag, the tag, and HEADLATCH on entry into LATCHED
(R104). -/
def afterFault (h : Fin 4) (tag : Option Seq) (latched : Bool) (s : State) : State :=
  let s := setFlag .headfault s
  let s := match tag with
    | none => s
    | some t => faultTag h t s
  if latched then setFlag .headlatch s else s

/-- A HEADFAULT for heads 0 to 3, by the state of the head (R104). -/
def headfaultAt (h : Fin 4) (tag : Option Seq) (s : State) : State :=
  let waiting := s.heads[h].faultWindow.isSome
  match s.heads[h].state with
  | .ready | .purgeWait =>
    let s := dropBookings h s
    if waiting then
      afterFault h tag true (modifyHead h (fun k => { k with faultWindow := none, state := .latched }) s)
    else
      afterFault h tag false
        (modifyHead h (fun k => { k with restart := some (startTimer (restartDelay s)), state := .resting }) s)
  | .resting => afterFault h tag true (modifyHead h (fun k => { k with restart := none, state := .latched, faultWindow := none }) s)
  | .purging =>
    afterFault h tag true
      (modifyHead h (fun k => { k with purge := none, abort := false, state := .latched, faultWindow := none }) s)
  | .disabled | .latched => countStrayReport s

/-- What a HEADFAULT report does (R104). -/
def headfaultReport (head : Byte) (tag : Option Seq) (s : State) : State :=
  if h : head.toNat < 4 then headfaultAt ⟨head.toNat, h⟩ tag s else countStrayReport s

/-- The last purge outcome that a report records (R107). -/
def outcomeOf : PurgeReport → PurgeOutcome
  | .complete => .complete
  | .aborted => .aborted

/-- A PURGEDONE for heads 0 to 3 (R107). -/
def purgedoneAt (h : Fin 4) (o : PurgeReport) (s : State) : State :=
  if s.heads[h].state = .purging then
    modifyHead h (fun k => { k with purge := none, abort := false, lastPurge := outcomeOf o, state := .ready }) s
  else countStrayReport s

/-- What a PURGEDONE report does (R107). -/
def purgedoneReport (head : Byte) (o : PurgeReport) (s : State) : State :=
  if h : head.toNat < 4 then purgedoneAt ⟨head.toNat, h⟩ o s else countStrayReport s

/-! ## Timer expiries (R106, R108) -/

/-- A restart timer that is running expires: RESTING becomes READY and the fault window opens (R106). A timer that is not
running does not expire (notes/assumptions/5.md). -/
def restartExpiry (h : Fin 4) (s : State) : State :=
  if s.heads[h].restart.isSome then
    modifyHead h (fun k => { k with restart := none, state := .ready, faultWindow := openWindow s }) s
  else s

/-- A fault window's timer expires: the window closes (R106). -/
def windowExpiry (h : Fin 4) (s : State) : State := modifyHead h (fun k => { k with faultWindow := none }) s

/-- A purge timer expires; it is taken only in PURGING (R108). -/
def purgeExpiry (h : Fin 4) (s : State) : State :=
  if s.heads[h].state = .purging then
    let s := modifyHead h
      (fun k => { k with purge := none, abort := false, lastPurge := .timeout, state := .latched, faultWindow := none }) s
    setFlag .headlatch (setFlag .headfault s)
  else s

/-! ## HEAD CONTROL (R109 to R114) -/

/-- ENABLE, with its status (R112). -/
def enableHead (h : Fin 4) (s : State) : State × Status :=
  match s.heads[h].state with
  | .disabled => (modifyHead h (fun k => { k with state := .ready, faultWindow := none }) s, .ok)
  | .latched => (modifyHead h (fun k => { k with state := .ready, faultWindow := none }) s, .ok)
  | .resting => (modifyHead h (fun k => { k with restart := none, state := .ready, faultWindow := openWindow s }) s, .ok)
  | .ready => (s, .ok)
  | .purgeWait => (s, .busy)
  | .purging => (s, .busy)

/-- DISABLE; its status is OK in every state (R113). -/
def disableHead (h : Fin 4) (s : State) : State :=
  modifyHead h
    (fun k => { k with restart := none, purge := none, faultWindow := none, abort := false, state := .disabled })
    (dropBookings h s)

/-- PURGE, with its status (R109). -/
def purgeHead (h : Fin 4) (s : State) : State × Status :=
  match s.heads[h].state with
  | .ready =>
    if s.heads[h].bookings = [] then (startPurge h s, .ok)
    else (modifyHead h (fun k => { k with state := .purgeWait }) s, .ok)
  | .purgeWait => (s, .busy)
  | .purging => (s, .busy)
  | .resting => (s, .busy)
  | .disabled => (s, .sequence)
  | .latched => (s, .sequence)

/-- ABORT PURGE, with its status (R111). -/
def abortPurgeHead (h : Fin 4) (s : State) : State × Status :=
  match s.heads[h].state with
  | .purgeWait => (modifyHead h (fun k => { k with state := .ready }) s, .ok)
  | .purging =>
    if s.heads[h].abort then (s, .busy)
    else
      (modifyHead h (fun k => { k with abort := true })
        (issueOrder (.abort h) ⟨headStation s.store.tables h, .abort h⟩ s), .ok)
  | .ready => (s, .sequence)
  | .resting => (s, .sequence)
  | .latched => (s, .sequence)
  | .disabled => (s, .sequence)

end Sys2Proof.Machine
end

