-- ==== Sys2Proof/Machine/Routing.lean ====
section
/-! DEFINITION. The routing unit: the gate plan, row selection, the gate check, the booking request, the decision and the late
rule (chapter 5; R96 to R100, R103, R135). -/

namespace Sys2Proof.Machine

/-- GEOMETRY in force. -/
def geometry (s : State) : Geometry := geometryOf s.store.tables

/-! ## The gate plan (R75, R90, R91) -/

/-- The path in effect: the last entry's, or the gate path of an empty plan (R75). -/
def pathInEffect (u : RoutingUnit) : Path :=
  match u.plan.getLast? with
  | some e => e.path
  | none => u.gatePath

/-- The greatest number of plan entries (R90). -/
def planCapacity : Nat := 32

/-- The plan entry of a letter on a path (R90). -/
def planEntry (s : State) (l : Letter) (p : Path) : PlanEntry where
  seq := l.seq
  path := p
  leading := l.leading
  trailing := trailingOf l
  retire := addDistance (trailingOf l) (geometry s).dGate
  edgelost := l.flags.edgelost

/-- An entry is appended; a plan that holds 32 entries first retires its head (R90). -/
def appendEntry (e : PlanEntry) (plan : List PlanEntry) : List PlanEntry :=
  (if planCapacity ≤ plan.length then plan.drop 1 else plan) ++ [e]

/-- The entries left after an advance: those at the head whose retire position is reached are removed (R91). -/
def retireEntries (belt : Pos) (plan : List PlanEntry) : List PlanEntry := plan.dropWhile fun e => atOrPast belt e.retire

/-- The routing unit's share of an advance (R4, R91). -/
def retirePlan (s : State) : State := s.withRouting { s.routing with plan := retireEntries s.position.belt s.routing.plan }

/-- The plan emptied, the gate path kept (R93). -/
def emptyPlan (s : State) : State := s.withRouting { s.routing with plan := [] }

/-! ## Row selection (R78, R81) -/

/-- A letter with the given verdict matches a routing row (R78). -/
def matchesRow (l : Letter) (v : Verdict) (r : RoutingRow) : Bool :=
  r.enabled
    && r.verdicts.testBit (verdictCode v.kind)
    && (match v.corner with
      | some c => r.corners.testBit (cornerNumber c).val
      | none => decide (r.corners = 255))
    && r.kinds.testBit v.markKind
    && decide (r.required &&& flagsByte l.flags = r.required)
    && decide (r.forbidden &&& flagsByte l.flags = 0)
    && decide (r.lengthMin ≤ l.length.getD 0 ∧ l.length.getD 0 ≤ r.lengthMax)

/-- Routing row i in force (R76). -/
def rowInForce (ts : Tables) (i : Nat) : RoutingRow := routingRow (tableRow ts .routing i)

/-- The first row a letter matches, in row order (R81). -/
def selectRow (ts : Tables) (l : Letter) (v : Verdict) : Option Nat :=
  (List.range 48).find? fun i => matchesRow l v (rowInForce ts i)

/-! ## The gate check (R82, R83) -/

/-- The gap from a plan entry to a letter (R83). -/
def gapFrom (e : PlanEntry) (leading : Pos) : Nat := if atOrPast leading e.trailing then distance e.trailing leading else 0

/-- The outcome of the gate check. -/
inductive GateCheck where
  /-- the desired path is the path in effect -/
  | follow
  /-- the gate switches at a position -/
  | switch (switchAt : Pos)
  /-- the letter is forced onto the path in effect -/
  | forced
  deriving DecidableEq, Repr

/-- The gate check of a letter with a desired path (R82). -/
def gateCheck (g : Geometry) (u : RoutingUnit) (leading : Pos) (p : Path) : GateCheck :=
  if p = pathInEffect u then .follow
  else
    match u.plan.getLast? with
    | none => .switch (addDistance leading (g.dGate - g.lGate))
    | some j =>
      if !j.edgelost && decide (g.sGate ≤ gapFrom j leading) then .switch (addDistance j.trailing g.dGate) else .forced

/-! ## The booking request (R96 to R100) -/

/-- The head that a FACED verdict's corner reaches on a path (R96). -/
def reachedHead (v : Verdict) (p : Path) : Option (Fin 4) :=
  match v.kind, v.corner, p with
  | .faced, some .ftl, .straight => some 0
  | .faced, some .fbt, .straight => some 1
  | .faced, some .rbl, .turn => some 2
  | .faced, some .rtt, .turn => some 3
  | _, _, _ => none

/-- A pattern is valid (R97). -/
def patternValid (r : PatternRow) : Bool :=
  decide (16 ≤ r.least ∧ r.least ≤ 1023 ∧ r.least ≤ r.pre + r.post + r.postmark + 1)

/-- A leading-end corner (R96). -/
def leadingEnd : Corner → Bool
  | .ftl => true
  | .rbl => true
  | .rtl => true
  | .fbl => true
  | .ftt => false
  | .fbt => false
  | .rtt => false
  | .rbt => false

/-- The mark extent: the verdict's span, or the range of the window at its corner (R99). -/
def markExtent (l : Letter) (v : Verdict) (c : Corner) : Span :=
  match v.span with
  | some s => s
  | none =>
    match l.windows with
    | some ws => ws[cornerNumber c].range
    | none => ⟨0, 0⟩

/-- The clipped start offset and the print length of a placement, or none where it is SHORT (R99). -/
def placement (r : PatternRow) (c : Corner) (extent : Span) (L : Nat) : Option (Nat × Nat) :=
  let start : Int :=
    if leadingEnd c then (extent.first : Int) - r.pre else (extent.first : Int) - r.post - r.postmark
  let stop : Int := if leadingEnd c then (extent.last : Int) + r.post + r.postmark else (extent.last : Int) + r.pre
  let clippedStart : Int := max start r.edge
  let clippedStop : Int := min stop ((L : Int) - r.edge)
  if clippedStop - clippedStart < r.least then none
  else some (clippedStart.toNat, (clippedStop - clippedStart).toNat)

/-- The cancel distance of a path (R11). -/
def cancelDistance (s : State) (p : Path) : Nat :=
  match s.position.lane, p with
  | none, _ => 0
  | some d, .straight => d.cancelStraight
  | some d, .turn => d.cancelTurn

/-- An accepted booking request: the head, the print start and the print length (R98). -/
structure Accepted where
  head : Fin 4
  start : Pos
  length : Nat
  deriving DecidableEq, Repr

/-- The occupancy end of a print (R100). -/
def occupancyEnd (s : State) (start : Pos) (length : Nat) : Pos :=
  addDistance (addDistance start length) (geometry s).rHead

/-- The recovery test: an empty list, or a print start at or past the last booking's occupancy end (R98 test 7). -/
def recoveryPasses (bs : List Booking) (start : Pos) : Bool :=
  match bs.getLast? with
  | none => true
  | some b => atOrPast start b.occupied

/-- The greatest number of bookings of a head (R98 test 6). -/
def bookingCapacity : Nat := 4

/-- The eight tests of a booking request, in order (R98). -/
def requestBooking (s : State) (l : Letter) (v : Verdict) (p : Path) (pat : Fin 8) : Option Accepted :=
  let r := patternRow (tableRow s.store.tables .pattern pat.val)
  if !patternValid r then none
  else
    match reachedHead v p, v.corner with
    | some h, some c =>
      if !s.clock.valid then none
      else
        match placement r c (markExtent l v c) (l.length.getD 0) with
        | none => none
        | some (offset, len) =>
          let start := addDistance (addDistance l.leading offset) (cancelDistance s p)
          if s.heads[h].state ≠ .ready then none
          else if bookingCapacity ≤ s.heads[h].bookings.length then none
          else if !recoveryPasses s.heads[h].bookings start then none
          else if !(atOrPast start s.position.belt) || decide (distance s.position.belt start < (geometry s).lPrint) then
            none
          else some ⟨h, start, len⟩
    | _, _ => none

/-- The booking of an accepted request (R100, R101). -/
def bookingOf (s : State) (q : Seq) (a : Accepted) : Booking :=
  ⟨q, a.start, addDistance a.start a.length, occupancyEnd s a.start a.length⟩

/-! ## Orders of a decision (R87, R103, R135) -/

/-- The GATE order (R87). -/
def gateOrder (s : State) (p : Path) (x : Pos) : OrderFrame := ⟨gateStation s.store.tables, .gate p x⟩

/-- The PRINT order with the postmark of this event (R103, R125). -/
def printOrder (s : State) (q : Seq) (a : Accepted) (pat : Fin 8) : OrderFrame :=
  let ts := s.store.tables
  let d := postmarkDate s.clock (cutoverHour ts)
  ⟨headStation ts a.head,
    .print a.head q a.start a.length pat (patternRow (tableRow ts .pattern pat.val)).style d.day d.month d.year
      s.clock.hour (officeNumber ts) (laneNumber ts)⟩

/-- The STACK order (R135). -/
def stackOrder (s : State) (l : Letter) (n : Fin 8) : OrderFrame :=
  let m := (geometry s).stackMargin
  let v := diverterDistance s n
  ⟨stackerStation s.store.tables n,
    .stack n l.seq (subDistance (addDistance l.leading v) m) (addDistance (addDistance (trailingOf l) v) m)⟩

/-! ## Dispositions -/

/-- The disposition, print and arrival window are written into the record, and the letter becomes ROUTED (R86, R88). -/
def writeDisposition (q : Seq) (d : Disposition) (pr : Option Print) (w : ArrivalWindow) (s : State) : State :=
  modifyLetter q
    (fun l => { l with disposition := some d, print := pr, window := some w, state := .routed }) s

/-- An entry for the letter joins the plan (R90). -/
def appendPlan (l : Letter) (p : Path) (s : State) : State :=
  s.withRouting { s.routing with plan := appendEntry (planEntry s l p) s.routing.plan }

/-- A late disposition with cause LATE or NOROOM (R88): the path in effect, its residue stacker, no row, no print, no order. -/
def lateDisposition (l : Letter) (cause : ResidueCause) (s : State) : State :=
  let p := pathInEffect s.routing
  let n := residueStacker p
  let s := reserve n s
  let s := recomputeLamp n (writeDisposition l.seq ⟨p, n, none, some cause⟩ none (arrivalWindow s n l.leading) s)
  setFlag .late (count tallyLate (appendPlan l p s))

/-! ## The decision (R79 to R86) -/

/-- What row selection gives a decision: desired path, row, print pattern, stackers and, for an UNROUTED letter, its cause
(R81). -/
structure Selection where
  path : Path
  row : Option Nat
  pattern : Option (Fin 8)
  primary : Fin 8
  alternate : Option (Fin 8)
  cause : Option ResidueCause
  deriving DecidableEq, Repr

/-- Row selection and its count (R81). -/
def rowSelection (l : Letter) (v : Verdict) (s : State) : Selection × State :=
  match selectRow s.store.tables l v with
  | none => (⟨.straight, none, none, 0, none, some .unrouted⟩, count tallyUnrouted s)
  | some i =>
    let r := rowInForce s.store.tables i
    (⟨pathOf r.path, some i, r.pattern.map patternOf, stackerOf r.primary, r.alternate.map stackerOf, none⟩,
      match r.tally with
      | none => s
      | some t => count (tallyOfRow t) s)

/-- A cause recorded by the first phase that meets one (R79). -/
def recordCause (old : Option ResidueCause) (new : ResidueCause) : Option ResidueCause :=
  match old with
  | some c => some c
  | none => some new

/-- What the gate check settles: the final path, the switch, the pattern still to print and the cause (R82). -/
structure Gated where
  path : Path
  switchAt : Option Pos
  pattern : Option (Fin 8)
  cause : Option ResidueCause
  forced : Bool
  deriving DecidableEq, Repr

/-- The gate check and, for a FORCED letter, its count and flag (R82). -/
def gatePhase (l : Letter) (k : Selection) (s : State) : Gated × State :=
  match gateCheck (geometry s) s.routing l.leading k.path with
  | .follow => (⟨k.path, none, k.pattern, k.cause, false⟩, s)
  | .switch x => (⟨k.path, some x, k.pattern, k.cause, false⟩, s)
  | .forced =>
    (⟨pathInEffect s.routing, none, none, recordCause k.cause .forced, true⟩, setFlag .forced (count tallyForced s))

/-- The print request: an accepted booking joins its head's list; a refusal records NOPRINT with its count and flag (R84). -/
def printPhase (l : Letter) (v : Verdict) (g : Gated) (s : State) : Option (Accepted × Fin 8) × Option ResidueCause × State :=
  match g.pattern with
  | none => (none, g.cause, s)
  | some pat =>
    match requestBooking s l v g.path pat with
    | some a => (some (a, pat), g.cause, addBooking a.head (bookingOf s l.seq a) s)
    | none => (none, recordCause g.cause .noprint, setFlag .noprint (count tallyNoprint s))

/-- The stacker request and the reservation's count: a residue request where a cause is recorded, a row request otherwise
(R85, R131, R132, R133). -/
def stackerPhase (k : Selection) (p : Path) (cause : Option ResidueCause) (s : State) :
    Fin 8 × Option ResidueCause × State :=
  match cause with
  | some c => (residueStacker p, some c, reserve (residueStacker p) s)
  | none =>
    match rowRequest s p k.primary k.alternate with
    | some n => (n, none, reserve n s)
    | none => (residueStacker p, some .full, reserve (residueStacker p) (count tallyFulldivert s))

/-- The orders of a decision, in the order in which they join (R86). -/
def decisionOrders (s : State) (l : Letter) (g : Gated) (pr : Option (Accepted × Fin 8)) (n : Fin 8) : List OrderFrame :=
  (match g.switchAt with
    | none => []
    | some x => [gateOrder s g.path x])
  ++ (match pr with
    | none => []
    | some (a, pat) => [printOrder s l.seq a pat])
  ++ (if isResidue n then [] else [stackOrder s l n])

/-- The print a decision records (R84). -/
def printOf (pr : Option (Accepted × Fin 8)) : Option Print :=
  pr.map fun x => ⟨x.1.head, x.1.start, x.1.length, x.2, .planned⟩

/-- The commit of a decision: disposition, plan entry, gate path, orders (R86), and then the lamp of the reservation (R133). -/
def commitDecision (l : Letter) (k : Selection) (g : Gated) (pr : Option (Accepted × Fin 8)) (n : Fin 8)
    (cause : Option ResidueCause) (s : State) : State :=
  let s := writeDisposition l.seq ⟨g.path, n, k.row, cause⟩ (printOf pr) (arrivalWindow s n l.leading) s
  let s := appendPlan l g.path s
  let s := if g.switchAt.isSome then s.withRouting { s.routing with gatePath := g.path } else s
  let s := (decisionOrders s l g pr n).foldl (fun s o => joinOrder o s) s
  recomputeLamp n s

/-- The places a decision asks for (R80). -/
def placesForDecision : Nat := 3

/-- A routing decision: order room, row selection, gate check, print request, stacker request, commit (R79). -/
def routingDecision (l : Letter) (v : Verdict) (s : State) : State :=
  if freeOrderPlaces s < placesForDecision then lateDisposition l .noroom s
  else
    let (k, s) := rowSelection l v s
    let (g, s) := gatePhase l k s
    let (pr, cause, s) := printPhase l v g s
    let (n, cause, s) := stackerPhase k g.path cause s
    commitDecision l k g pr n cause s

/-! ## The completion of an evaluation (R61, R62) -/

/-- The verdict, and MULTI where R71 requires it, written into the subject's record (R61 steps 1 and 2). -/
def recordVerdict (q : Seq) (v : Verdict) (multi : Bool) (s : State) : State :=
  modifyLetter q
    (fun l => { l with verdict := some v, flags := { l.flags with multi := l.flags.multi || multi } }) s

/-- The completion of an evaluation whose subject is the letter l (R61). -/
def completeSubject (l : Letter) (s : State) : State :=
  match l.windows with
  | none => releaseSubject s
  | some ws =>
    let (v, multi) := verdictOf s.store.tables ws
    let s := count (tallyOfKind v.markKind) (recordVerdict l.seq v multi s)
    let s :=
      if l.state = .evaluating then
        match findLetter s l.seq with
        | none => s
        | some l' => routingDecision l' v s
      else s
    releaseSubject s

/-- The completion of the evaluation in flight; with its subject absent it is discarded (R61, R62). With the unit IDLE there
is none (notes/assumptions/5.md). -/
def completeEvaluation (s : State) : State :=
  if !s.eval.busy then s
  else
    match s.eval.subject with
    | none => releaseSubject s
    | some q =>
      match findLetter s q with
      | none => releaseSubject s
      | some l => completeSubject l s

end Sys2Proof.Machine
end

