-- ==== Sys2Proof/Machine/Scan.lean ====
section
/-! DEFINITION. The scan unit: background, partials, windows, the close of a context (chapter 3). -/

namespace Sys2Proof.Machine

/-! ## Background (R42) -/

/-- The sample of a LINE field: its low ten bits (R177). -/
def sampleOf (w : BitVec 16) : Nat := w.toNat % 1024

/-- A bg8 value after a BACKGROUND sample (R42). -/
def updateBackground (bg8 sample : Nat) : Nat := bg8 - bg8 / 8 + sample

/-- The background table of one head after a BACKGROUND line (R42). -/
def updateBackgrounds (bg : Vector Nat 24) (samples : Vector (BitVec 16) 24) : Vector Nat 24 :=
  Vector.ofFn fun i => updateBackground bg[i] (sampleOf samples[i])

/-- The background table of a head. -/
def backgroundOf (u : ScanUnit) : ScanHead → Vector Nat 24
  | .f => u.backgroundF
  | .r => u.backgroundR

/-- A BACKGROUND line of a head (R42). -/
def backgroundLine (h : ScanHead) (samples : Vector (BitVec 16) 24) (u : ScanUnit) : ScanUnit :=
  match h with
  | .f => { u with backgroundF := updateBackgrounds u.backgroundF samples }
  | .r => { u with backgroundR := updateBackgrounds u.backgroundR samples }

/-! ## Measuring a line (R43) -/

/-- The excess of a sample over its background, floor(bg8 / 8) (R42, R43). -/
def excessOf (bg8 sample : Nat) : Nat := sample - bg8 / 8

/-- The excess of cell c and band b of a line (R43). -/
def excessAt (bg : Vector Nat 24) (samples : Vector (BitVec 16) 24) (c b : Nat) : Nat :=
  match samples[3 * c + b]?, bg[3 * c + b]? with
  | some w, some v => excessOf v (sampleOf w)
  | _, _ => 0

/-- The cells of a cell set (R55). -/
def cellsOf (set : Nat) : List Nat := (List.range 8).filter fun c => set.testBit c

/-- The sum of a band's excesses over a cell set (R43). -/
def excessSum (bg : Vector Nat 24) (samples : Vector (BitVec 16) 24) (set b : Nat) : Nat :=
  ((cellsOf set).map fun c => excessAt bg samples c b).sum

/-- The number of a band's hits in a cell set (R43). -/
def hitCount (bg : Vector Nat 24) (samples : Vector (BitVec 16) 24) (set b hit : Nat) : Nat :=
  ((cellsOf set).filter fun c => decide (hit ≤ excessAt bg samples c b)).length

/-- One half of a line's partial, over a cell set (R43). -/
def halfPartial (k : Scanset) (bg : Vector Nat 24) (samples : Vector (BitVec 16) 24) (set : Nat) : HalfPartial :=
  let hits : Bands :=
    ⟨hitCount bg samples set 0 k.hit.glow, hitCount bg samples set 1 k.hit.fluor, hitCount bg samples set 2 k.hit.red⟩
  { excess := ⟨excessSum bg samples set 0, excessSum bg samples set 1, excessSum bg samples set 2⟩
    hits := hits
    mark := decide (0 < hits.glow + hits.fluor + hits.red) }

/-- A line's partial (R43). -/
def linePartial (k : Scanset) (bg : Vector Nat 24) (samples : Vector (BitVec 16) 24) (offset : Nat) : LinePartial :=
  ⟨offset, halfPartial k bg samples k.upper, halfPartial k bg samples k.lower⟩

/-! ## Windows (R45, R50, R51, R52) -/

/-- The limit of a strength (R50). -/
def strengthLimit : Nat := 16777215

/-- The limit of an area (R50). -/
def areaLimit : Nat := 768

/-- The empty window: strengths and areas 0, span absent (R47). -/
def emptyWindow : WindowSum := ⟨⟨0, 0, 0⟩, ⟨0, 0, 0⟩, none⟩

/-- A span that takes in an offset (R51). -/
def takeIn (span : Option Span) (o : Nat) : Option Span :=
  match span with
  | none => some ⟨o, o⟩
  | some s => some ⟨min s.first o, max s.last o⟩

/-- Three sums, each held at a limit (R50). -/
def addBands (limit : Nat) (a b : Bands) : Bands :=
  ⟨min limit (a.glow + b.glow), min limit (a.fluor + b.fluor), min limit (a.red + b.red)⟩

/-- Half of a partial added to a window (R45). -/
def addHalf (w : WindowSum) (o : Nat) (p : HalfPartial) : WindowSum where
  strength := addBands strengthLimit w.strength p.excess
  area := addBands areaLimit w.area p.hits
  span := if p.mark then takeIn w.span o else w.span

/-- The ratio Q of a window (R52). -/
def ratioOf (s : Bands) : Nat := if s.glow + s.fluor = 0 then 0 else 255 * s.glow / (s.glow + s.fluor)

/-- A window summed from a line store over offsets first to first + n − 1: upper halves for a top window, lower for a bottom
(R48, R49). -/
def sumStore (store : List LinePartial) (top : Bool) (first n : Nat) : WindowSum :=
  store.foldl
    (fun w p =>
      if first ≤ p.offset ∧ p.offset < first + n then addHalf w p.offset (if top then p.upper else p.lower) else w)
    emptyWindow

/-- A window record from its sums (R53). -/
def recordOf (range : Span) (w : WindowSum) : WindowRecord := ⟨range, w, ratioOf w.strength⟩

/-! ## Taking a line (R41, R44) -/

/-- The greatest number of partials in a line store (R46). -/
def storeCapacity : Nat := 96

/-- A partial joins a line store, the oldest evicted first from a full one (R46). -/
def joinStore (store : List LinePartial) (p : LinePartial) : List LinePartial :=
  (if storeCapacity ≤ store.length then store.drop 1 else store) ++ [p]

/-- The greatest offset after a line (R44). -/
def greatestWith (g : Option Nat) (o : Nat) : Option Nat :=
  match g with
  | none => some o
  | some x => some (max x o)

/-- A context after a line of head h with the given partial (R44, R45). -/
def contextWith (k : Scanset) (h : ScanHead) (p : LinePartial) (c : ScanContext) : ScanContext :=
  let c := { c with greatest := greatestWith c.greatest p.offset }
  let leading := decide (p.offset < 4 * k.window)
  match h with
  | .f =>
    { c with
      countF := satInc16 c.countF
      ftl := if leading then addHalf c.ftl p.offset p.upper else c.ftl
      fbl := if leading then addHalf c.fbl p.offset p.lower else c.fbl }
  | .r =>
    { c with
      countR := satInc16 c.countR
      rtl := if leading then addHalf c.rtl p.offset p.upper else c.rtl
      rbl := if leading then addHalf c.rbl p.offset p.lower else c.rbl }

/-- An ASSIGNED line of head h (R43, R44). -/
def assignedLine (k : Scanset) (h : ScanHead) (samples : Vector (BitVec 16) 24) (offset : Nat) (c : ScanContext)
    (u : ScanUnit) : ScanUnit :=
  let p := linePartial k (backgroundOf u h) samples offset
  let c' := contextWith k h p c
  match h with
  | .f => { u with context := some c', storeF := joinStore u.storeF p }
  | .r => { u with context := some c', storeR := joinStore u.storeR p }

/-- A line classed BACKGROUND, ASSIGNED or IGNORED, and handled by its class (R41). -/
def scanLine (k : Scanset) (h : ScanHead) (x : Pos) (samples : Vector (BitVec 16) 24) (u : ScanUnit) : ScanUnit :=
  match u.context with
  | none => backgroundLine h samples u
  | some c =>
    if !(atOrPast x c.leading) then backgroundLine h samples u
    else
      match offsetIn c.leading x with
      | some o => assignedLine k h samples o c u
      | none => u

/-- What a LINE does at the scan unit (R41). -/
def takeLine (h : ScanHead) (x : Pos) (samples : Vector (BitVec 16) 24) (s : State) : State :=
  s.withScan (scanLine (scansetOf s.store.tables) h x samples s.scan)

/-! ## Opening and closing a context (R47, R48, R49, R54, R57) -/

/-- A context for an admitted letter; both line stores are emptied (R47). -/
def openContext (q : Seq) (leading : Pos) (u : ScanUnit) : ScanUnit :=
  { u with
    context := some ⟨q, leading, none, 0, 0, emptyWindow, emptyWindow, emptyWindow, emptyWindow⟩
    storeF := []
    storeR := [] }

/-- The context and both line stores emptied (R48, R57). -/
def emptyContext (u : ScanUnit) : ScanUnit := { u with context := none, storeF := [], storeR := [] }

/-- The range of the leading windows of a letter of length L (R49). -/
def leadingRange (w L : Nat) : Span := if 4 * w ≤ L then ⟨0, 4 * w - 1⟩ else ⟨0, L - 1⟩

/-- The range of the trailing windows of a letter of length L (R49). -/
def trailingRange (w L : Nat) : Span := if 4 * w ≤ L then ⟨L - 4 * w, L - 1⟩ else ⟨0, L - 1⟩

/-- The eight window records of a letter of length L, in corner order (R48, R49). -/
def formWindows (k : Scanset) (L : Nat) (c : ScanContext) (u : ScanUnit) : Vector WindowRecord 8 :=
  let lead (running : WindowSum) (store : List LinePartial) (top : Bool) : WindowRecord :=
    recordOf (leadingRange k.window L) (if 4 * k.window ≤ L then running else sumStore store top 0 L)
  let trail (store : List LinePartial) (top : Bool) : WindowRecord :=
    recordOf (trailingRange k.window L)
      (if 4 * k.window ≤ L then sumStore store top (L - 4 * k.window) (4 * k.window) else sumStore store top 0 L)
  #v[lead c.ftl u.storeF true, trail u.storeF true, lead c.fbl u.storeF false, trail u.storeF false,
    lead c.rtl u.storeR true, trail u.storeR true, lead c.rbl u.storeR false, trail u.storeR false]

/-- SHORTSCAN: the letter is shorter than its two windows need (R49). -/
def shortScan (k : Scanset) (L : Nat) : Bool := decide (L < 4 * k.window)

/-- A head's line count fails the scan-gap test: the expected number floor(L / 4) − g is above 0 and the count is below it
(R54). -/
def gapFails (g L count : Nat) : Bool := decide (count + g < L / 4)

/-- The scan-gap test of both heads (R54). -/
def scanGap (k : Scanset) (L : Nat) (c : ScanContext) : Bool :=
  gapFails k.gap L c.countF.toNat || gapFails k.gap L c.countR.toNat

/-- The length of a letter closed without its TRAIL edge: the greatest assigned offset plus 1, at most 4,095, or 0 where no
line was assigned (R27). -/
def lengthSeen (u : ScanUnit) : Nat :=
  match u.context with
  | none => 0
  | some c =>
    match c.greatest with
    | none => 0
    | some g => min 4095 (g + 1)

end Sys2Proof.Machine
end

