-- ==== Sys2Proof/Machine/Track.lean ====
section
/-! DEFINITION. The letter track and the position unit: close, admission, edges, retirement, lateness and loss, the advance of the
belt, abandonment and drain (chapters 1 and 2). -/

namespace Sys2Proof.Machine

/-- The track is running: RUNNING or DRAINING (R20). -/
def laneRuns (m : LaneMode) : Bool := decide (m = .running ∨ m = .draining)

/-- The lane mode becomes m. -/
def setMode (m : LaneMode) (s : State) : State := s.withTrack { s.track with mode := m }

/-- The trail-expected indicator (R33). -/
def setTrailExpected (b : Bool) (s : State) : State := s.withTrack { s.track with trailExpected := b }

/-- The last trailing position (R15). -/
def setLastTrailing (p : Option Pos) (s : State) : State := s.withTrack { s.track with lastTrailing := p }

/-! ## Close (R27, R48) -/

/-- A record with its length and the flags of a close (R27, R48, R54). -/
def closedRecord (g : Geometry) (k : Scanset) (L : Nat) (edgelost gap : Bool) (ws : Option (Vector WindowRecord 8))
    (l : Letter) : Letter :=
  { l with
    length := some L
    windows := ws
    flags := { l.flags with
      long := l.flags.long || decide (g.maxLength < L)
      short := l.flags.short || decide (L < g.minLength)
      edgelost := l.flags.edgelost || edgelost
      scangap := l.flags.scangap || gap
      shortscan := l.flags.shortscan || (ws.isSome && shortScan k L) } }

/-- The OPEN letter l is closed with length L; `edgelost` where no TRAIL edge closes it, `fault` where the close sets
EDGEFAULT (R27, R32). The scan unit forms the windows, makes the scan-gap test and empties its context (R48). -/
def closeLetter (l : Letter) (L : Nat) (edgelost fault : Bool) (s : State) : State :=
  let k := scansetOf s.store.tables
  let ws := s.scan.context.map fun c => formWindows k L c s.scan
  let gap := match s.scan.context with
    | none => false
    | some c => scanGap k L c
  let s := modifyLetter l.seq (closedRecord (geometry s) k L edgelost gap ws) s
  let s := if fault then setFlag .edgefault s else s
  let s := s.withScan (emptyContext s.scan)
  let s := if gap then setFlag .scangap s else s
  setLastTrailing (some (addDistance l.leading L)) s

/-- A close without a TRAIL edge: EDGELOST, with the length the heads saw (R27). -/
def closeEdgelost (l : Letter) (s : State) : State := closeLetter l (lengthSeen s.scan) true true s

/-! ## Retirement (R19) -/

/-- The effects of a drain's completion (R26). -/
def completeDrain (s : State) : State := setLastTrailing none (emptyPlan (setMode .stopped s))

/-- In DRAINING an empty track completes the drain (R26). -/
def drainIfEmpty (s : State) : State :=
  if s.track.mode = .draining ∧ s.track.letters = [] then completeDrain s else s

/-- A record leaves the track; the others keep their order (R15). -/
def removeLetter (q : Seq) (s : State) : State :=
  s.withTrack { s.track with letters := s.track.letters.filter fun l => l.seq ≠ q }

/-- The stacker unit's share of a DELIVERED or LOST retirement (R139, R141): the counts; for a loss the LOST flag; for an
arrival its tally; and the lamp, which changes with the committed count. -/
def stackerShare (l : Letter) (cause : Retirement) (s : State) : State :=
  match l.disposition with
  | none => s
  | some d =>
    let s := retireFrom d.stacker cause s
    match cause with
    | .delivered => recomputeLamp d.stacker (count (tallyOfArrival d.stacker) s)
    | .lost => recomputeLamp d.stacker (setFlag .lost s)
    | .abandoned => s

/-- A letter retired as DELIVERED or LOST, in the order in which R19 lists the effects. -/
def retire (l : Letter) (cause : Retirement) (s : State) : State :=
  let s := removeLetter l.seq s
  let s := count (tallyOfRetirement cause) s
  let s := stackerShare l cause s
  let s := removeBooking l.seq s
  let s := forgetSubject l.seq s
  drainIfEmpty s

/-! ## Abandonment (R25, R38, R142) -/

/-- One letter abandoned: ABANDONED is counted by `tally`, a ROUTED letter leaves its stacker's in-flight count (R19, R142). -/
def abandonLetter (tally : Fin 64 → State → State) (s : State) (l : Letter) : State :=
  let s := tally (tallyOfRetirement .abandoned) s
  match l.disposition with
  | none => s
  | some d => retireFrom d.stacker .abandoned s

/-- The letters, the evaluation queue, the scan context, the plan and the edge state of an abandonment (R25); the booking lists
and the lamps are the caller's. -/
def abandonLetters (tally : Fin 64 → State → State) (s : State) : State :=
  let wasOpen := s.track.letters.any fun l => decide (l.state = .opened)
  let s' := s.track.letters.foldl (abandonLetter tally)
    (s.withTrack { s.track with letters := [], lastTrailing := none, trailExpected := wasOpen })
  let s' := s'.withEval { s'.eval with queue := [], subject := none }
  emptyPlan (s'.withScan (emptyContext s'.scan))

/-- Entry into STOPPED by a MODE ask (R25). -/
def enterStopped (s : State) : State :=
  setMode .stopped (emptyBookings (recomputeLamps (abandonLetters count s)))

/-! ## Lateness and loss (R34, R35, R37) -/

/-- A letter whose deadline is reached is declared late, by its state (R35). -/
def declareLate (l : Letter) (s : State) : State :=
  let s := match l.state with
    | .opened => setTrailExpected true (closeEdgelost l s)
    | .queued => dropFromQueue l.seq s
    | .evaluating => s
    | .routed => s
  match findLetter s l.seq with
  | none => s
  | some l' => lateDisposition l' .late s

/-- A letter that is not ROUTED and whose deadline the belt has reached (R34 test 1). -/
def deadlineReached (belt : Pos) (l : Letter) : Bool := decide (l.state ≠ .routed) && atOrPast belt l.deadline

/-- A ROUTED letter whose arrival window end the belt has reached (R34 test 2). -/
def windowEnded (belt : Pos) (l : Letter) : Bool :=
  decide (l.state = .routed)
    && (match l.window with
      | none => false
      | some w => atOrPast belt w.stop)

/-- The first test of an advance for one letter (R34). -/
def testDeadline (q : Seq) (s : State) : State :=
  match findLetter s q with
  | none => s
  | some l => if deadlineReached s.position.belt l then declareLate l s else s

/-- The second test of an advance for one letter (R34, R37). -/
def testWindowEnd (q : Seq) (s : State) : State :=
  match findLetter s q with
  | none => s
  | some l => if windowEnded s.position.belt l then retire l .lost s else s

/-- The track's share of an advance: its letters in track order, two tests each (R34). -/
def trackAdvance (s : State) : State :=
  (s.track.letters.map Letter.seq).foldl (fun s q => testWindowEnd q (testDeadline q s)) s

/-! ## The advance (R3, R4) -/

/-- The shares of the three owners of an advance in a given order (R4). -/
def inOrder (o : Config.OwnerOrder) (s : State) : State :=
  let s := if o.routingFirst then retirePlan s else s
  let s := if o.cancelFirst then expireBookings s else s
  let s := trackAdvance s
  let s := if o.routingFirst then s else retirePlan s
  if o.cancelFirst then s else expireBookings s

/-- The four orders of the owners. -/
def ownerOrders : List Config.OwnerOrder := [⟨false, false⟩, ⟨false, true⟩, ⟨true, false⟩, ⟨true, true⟩]

/-- The owners' shares of an advance. Where every order gives one outcome, that; where orders differ, the order is free: the
next value of Config.advanceOrder (R4, R19, notes/assumptions/8.md). -/
def ownersAdvance (s : State) : State :=
  if ownerOrders.all fun o => decide (inOrder o s = inOrder ⟨false, false⟩ s) then inOrder ⟨false, false⟩ s
  else inOrder (Config.advanceOrder s.choices) (s.withChoices (s.choices + 1))

/-- A position is ahead of the belt: at or past it and different (R3). -/
def aheadOf (belt f : Pos) : Bool := atOrPast f belt && decide (f ≠ belt)

/-- A positioned frame's position taken: it may advance the belt (R3). -/
def takePosition (f : Pos) (s : State) : State :=
  if aheadOf s.position.belt f then ownersAdvance (s.withPosition { s.position with belt := f }) else s

/-! ## Edges (R18, R28 to R33) -/

/-- The greatest number of letters (R15). -/
def trackCapacity : Nat := 32

/-- The first number from n on that no letter holds; `fuel` numbers beyond n are tried (R18). -/
def freeNumber (letters : List Letter) : Nat → Seq → Seq
  | 0, n => n
  | fuel + 1, n => if letters.any (fun l => decide (l.seq = n)) then freeNumber letters fuel (n + 1) else n

/-- CROWDED: the gap from the last trailing position to F is below the minimum gap (R29). -/
def crowdedAt (g : Geometry) (last : Option Pos) (f : Pos) : Bool :=
  match last with
  | none => false
  | some t => decide ((if atOrPast f t then distance t f else 0) < g.minGap)

/-- The deadline distance (R11). -/
def deadlineDistance (s : State) : Nat :=
  match s.position.lane with
  | none => 0
  | some d => d.deadline

/-- The record of a letter admitted at F (R29). -/
def newLetter (s : State) (q : Seq) (f : Pos) : Letter where
  seq := q
  leading := f
  deadline := addDistance f (deadlineDistance s)
  length := none
  flags := { noFlags with crowded := crowdedAt (geometry s) s.track.lastTrailing f }
  state := .opened
  windows := none
  verdict := none
  disposition := none
  print := none
  window := none

/-- Admission at F (R18, R29, R47). -/
def admitLetter (f : Pos) (s : State) : State :=
  let q := freeNumber s.track.letters s.track.letters.length s.track.seqCounter
  let l := newLetter s q f
  let s := s.withTrack { s.track with letters := s.track.letters ++ [l], seqCounter := q + 1 }
  let s := count tallyEntered s
  s.withScan (openContext q f s.scan)

/-- A LEAD edge refused for a full track (R30). -/
def refuseLead (s : State) : State :=
  setTrailExpected true (sendHalt .trackfull (setFlag .trackfull (count tallyUntracked s)))

/-- A LEAD edge at F (R28, R31). -/
def leadEdgeAt (f : Pos) (s : State) : State :=
  if laneRuns s.track.mode then
    let s := match openLetter s with
      | none => s
      | some l => queueLetter l.seq (closeEdgelost l s)
    let s := setTrailExpected false s
    if s.track.letters.length < trackCapacity then admitLetter f s else refuseLead s
  else setTrailExpected true (count tallyUntracked s)

/-- The length of a letter closed by a TRAIL edge at X, and whether X lies behind it (R32). -/
def trailLength (leading x : Pos) : Nat × Bool :=
  if !(atOrPast x leading) then (0, true)
  else
    match offsetIn leading x with
    | some o => (o, false)
    | none => (4095, false)

/-- A TRAIL edge with no letter OPEN (R33). -/
def looseTrail (x : Pos) (s : State) : State :=
  if s.track.trailExpected then
    let s := setTrailExpected false s
    if laneRuns s.track.mode then setLastTrailing (some x) s else s
  else
    let s := s.withTrack { s.track with unmatched := satInc16 s.track.unmatched }
    if laneRuns s.track.mode then setFlag .edgefault s else s

/-- A TRAIL edge at X (R32, R33). -/
def trailEdgeAt (x : Pos) (s : State) : State :=
  match openLetter s with
  | some l => queueLetter l.seq (closeLetter l (trailLength l.leading x).1 false (trailLength l.leading x).2 s)
  | none => looseTrail x s

/-! ## Arrivals (R139, R140) -/

/-- A ROUTED letter of stacker n whose arrival window contains X (R139). -/
def expectsArrival (n : Fin 8) (x : Pos) (l : Letter) : Bool :=
  decide (l.state = .routed)
    && (match l.disposition, l.window with
      | some d, some w => decide (d.stacker = n) && atOrPast x w.start && atOrPast w.stop x
      | _, _ => false)

/-- An ARRIVE for stackers 0 to 7: the oldest letter that expects it is delivered, or it is stray (R139, R140). -/
def arriveAt (n : Fin 8) (x : Pos) (s : State) : State :=
  match s.track.letters.find? (expectsArrival n x) with
  | some l => retire l .delivered s
  | none => setFlag .stray (count tallyStray s)

/-- What an ARRIVE report does (R139). -/
def arriveReport (stacker : Byte) (x : Pos) (s : State) : State :=
  if h : stacker.toNat < 8 then arriveAt ⟨stacker.toNat, h⟩ x s else countStrayReport s

end Sys2Proof.Machine
end

