-- ==== Sys2Proof/Machine/Asks.lean ====
section
/-! DEFINITION. The asks: each ask's arguments, effect and answer, by the block that owns it (R21 to R24, R39, R114, R121, R123, R144,
R151, R153, R159 to R169, R183 to R187, R191). -/

namespace Sys2Proof.Machine

/-- What serving an ask gives: the state after its effect, and the status and data of its answer. -/
structure Served where
  state : State
  status : Status
  data : List Byte

/-- An ask whose arguments fit none of its lengths: RANGE, no data, no change (R182, R191). -/
def badLength (s : State) : Served := ⟨s, .range, []⟩

/-- A number as one byte. -/
def byteOf (n : Nat) : Byte := BitVec.ofNat 8 n

/-- A station as one byte. -/
def stationByte (n : Station) : Byte := n.setWidth 8

/-! ## Ring port (R183, R184) -/

/-- The part code (R183). -/
def partCode : Nat := 0x0410

/-- The revision (R183). -/
def revision : Byte := 1

/-- IDENTIFY (R183). -/
def serveIdentify (s : State) : Served := ⟨s, .ok, natBytes 2 partCode ++ [revision, stationByte s.ring.own]⟩

/-- ECHO: the argument bytes, each inverted (R183). -/
def serveEcho (args : List Byte) (s : State) : Served := ⟨s, .ok, args.map fun b => ~~~b⟩

/-- The six link counters in the order of R184. -/
def linkData (c : LinkCounters) : List Byte :=
  natBytes 2 c.badCheck.toNat ++ natBytes 2 c.unknownKind.toNat ++ natBytes 2 c.forwardDrop.toNat
    ++ natBytes 2 c.askDrop.toNat ++ natBytes 2 c.noticeDrop.toNat ++ natBytes 2 c.strayReport.toNat

/-- LINK STATUS: the counters, then all six set to 0 (R184). -/
def serveLinkStatus (s : State) : Served := ⟨modifyCounters (fun _ => .reset) s, .ok, linkData s.ring.counters⟩

/-! ## MODE (R21 to R26) -/

/-- One entry of a head list: a head, and READY or DISABLED (R21). -/
structure HeadEntry where
  head : Fin 4
  enable : Bool
  deriving DecidableEq, Repr

/-- An entry of two bytes, if it names a head at most 3 and a setting (R21, R191). -/
def headEntryOf (h b : Byte) : Option HeadEntry :=
  if hh : h.toNat < 4 then
    if b = 0 then some ⟨⟨h.toNat, hh⟩, true⟩ else if b = 1 then some ⟨⟨h.toNat, hh⟩, false⟩ else none
  else none

/-- A head list of byte pairs, if every entry is good (R21). -/
def headListOf : List Byte → Option (List HeadEntry)
  | [] => some []
  | h :: b :: rest =>
    match headEntryOf h b, headListOf rest with
    | some e, some es => some (e :: es)
    | _, _ => none
  | [_] => none

/-- A forbidden jump (R22). -/
def jumpForbidden : LaneMode → LaneMode → Bool
  | .stopped, .draining => true
  | .running, .service => true
  | .draining, .service => true
  | .service, .running => true
  | .service, .draining => true
  | _, _ => false

/-- The lowest-numbered uncommitted table among the four that RUNNING needs (R23). -/
def missingTable (st : TableStore) : Option TableId :=
  [TableId.stacker, .geometry, .scanset, .office].find? fun t => !isCommitted st t

/-- A permitted transition applied (R22, R25, R26). -/
def applyMode (target : LaneMode) (s : State) : State :=
  match target with
  | .stopped => enterStopped s
  | .running => setMode .running s
  | .service => setMode .service s
  | .draining => drainIfEmpty (setMode .draining s)

/-- One entry of a head list acts as ENABLE or DISABLE (R24). -/
def applyEntry (s : State) (e : HeadEntry) : State := if e.enable then (enableHead e.head s).1 else disableHead e.head s

/-- A MODE answer without a head list (R191). -/
def modeData (s : State) (missing : Byte) : List Byte := [modeCode s.track.mode, missing]

/-- The jump and tables tests of a MODE ask and its application (R21 tests 2 to 4). -/
def modeTests (target : LaneMode) (es : List HeadEntry) (s : State) : Served :=
  if jumpForbidden s.track.mode target then
    let s := setFlag .forbidden s
    ⟨s, .forbidden, modeData s 0xFF⟩
  else
    match (if s.track.mode = .stopped ∧ target = .running then missingTable s.store else none) with
    | some t => ⟨s, .range, modeData s (tableCode t)⟩
    | none =>
      let s := es.foldl applyEntry (applyMode target s)
      ⟨s, .ok, modeData s 0xFF ++ es.map fun e => headStateCode s.heads[e.head].state⟩

/-- MODE: the arguments test and the rest (R21). -/
def serveMode (target : Byte) (entries : List Byte) (s : State) : Served :=
  match modeOf target, headListOf entries with
  | some m, some es => if 4 < es.length then ⟨s, .range, modeData s 0xFF⟩ else modeTests m es s
  | _, _ => ⟨s, .range, modeData s 0xFF⟩

/-! ## Table store (R159 to R169) -/

/-- A load context in 7 bytes (R191). -/
def loadData : Option Load → List Byte
  | none => [0, 0, 0, 0, 0, 0, 0]
  | some l =>
    [1, tableCode l.table, byteOf l.first, byteOf l.declared, byteOf (receivedCount l)] ++ natBytes 2 l.sum.toNat

/-- A discarded load: its indicator and its table (R159, R164, R191). -/
def discardData : Option Load → List Byte
  | none => [0, 0xFF]
  | some l => [1, tableCode l.table]

/-- TABLE OPEN (R159). -/
def serveTableOpen (table first n : Byte) (s : State) : Served :=
  match tableOf table with
  | none => ⟨s, .range, [0, 0xFF] ++ loadData s.store.load⟩
  | some t =>
    if isProtected s.store t then ⟨s, .protected_, [0, 0xFF] ++ loadData s.store.load⟩
    else if rowCount t < first.toNat + n.toNat + 1 then ⟨s, .range, [0, 0xFF] ++ loadData s.store.load⟩
    else
      let l : Load := ⟨t, first.toNat, n.toNat + 1, [], 0⟩
      ⟨setLoad (some l) s, .ok, discardData s.store.load ++ loadData (some l)⟩

/-- TABLE ROW (R160). -/
def serveTableRow (row : List Byte) (s : State) : Served :=
  match s.store.load with
  | none => ⟨s, .sequence, loadData none⟩
  | some l =>
    if row.length ≠ 16 then ⟨s, .range, loadData (some l)⟩
    else if receivedCount l = l.declared then ⟨abortLoad s, .sequence, loadData none⟩
    else
      let l' : Load := { l with rows := l.rows ++ [rowOfBytes row], sum := l.sum + byteSum row }
      ⟨setLoad (some l') s, .ok, loadData (some l')⟩

/-- A TABLE COMMIT answer that is neither RANGE nor OK (R191). -/
def commitRefusal (l : Option Load) : List Byte := [0xFF, 0, 0, 0] ++ loadData l

/-- TABLE COMMIT, its tests in order (R161). -/
def serveTableCommit (sum : BitVec 16) (s : State) : Served :=
  match s.store.load with
  | none => ⟨s, .sequence, commitRefusal none⟩
  | some l =>
    if laneRuns s.track.mode then ⟨s, .mode, commitRefusal (some l)⟩
    else if isProtected s.store l.table then ⟨abortLoad s, .protected_, commitRefusal none⟩
    else if receivedCount l < l.declared then ⟨abortLoad s, .sequence, commitRefusal none⟩
    else if l.sum ≠ sum then ⟨abortLoad s, .check, commitRefusal none⟩
    else
      match firstBadRow s (overlay s.store.tables l) l.table with
      | some i => ⟨abortLoad s, .range, [byteOf i, 0, 0, 0] ++ loadData none⟩
      | none =>
        ⟨commitLoad l s, .ok, [0xFF, tableCode l.table, byteOf l.first, byteOf (receivedCount l)] ++ loadData none⟩

/-- TABLE ABORT (R164). -/
def serveTableAbort (s : State) : Served := ⟨setLoad none s, .ok, discardData s.store.load ++ loadData none⟩

/-- The bytes of k live rows of a table from row r (R169). -/
def rowsData (ts : Tables) (t : TableId) (r k : Nat) : List Byte :=
  (List.range k).flatMap fun i => rowBytes (tableRow ts t (r + i))

/-- The part of a TABLE READ answer that every status carries (R169, R191). -/
def cursorData (st : TableStore) : List Byte :=
  [tableCode st.cursorTable, byteOf st.cursorRow, indicator (isCommitted st st.cursorTable),
    indicator (isProtected st st.cursorTable)]

/-- A TABLE READ from row r of table t (R169). -/
def tableReadFrom (k : Nat) (t : TableId) (r : Nat) (s : State) : Served :=
  if k = 0 ∨ 3 < k ∨ rowCount t < r + k then ⟨s, .range, cursorData s.store⟩
  else
    let s := s.withStore { s.store with cursorTable := t, cursorRow := r + k }
    ⟨s, .ok, cursorData s.store ++ [tableCode t, byteOf r, byteOf k] ++ rowsData s.store.tables t r k⟩

/-- TABLE READ (R169). -/
def serveTableRead (count : Byte) (position : Option (Byte × Byte)) (s : State) : Served :=
  match position with
  | none => tableReadFrom count.toNat s.store.cursorTable s.store.cursorRow s
  | some (t, r) =>
    match tableOf t with
    | none => ⟨s, .range, cursorData s.store⟩
    | some t => tableReadFrom count.toNat t r.toNat s

/-- The set of some table identifiers (R167, R191). -/
def tableSet (ids : List Byte) : BitVec 8 := ids.foldl (fun acc b => acc ||| BitVec.ofNat 8 (2 ^ b.toNat)) 0

/-- A PROTECT answer (R167, R191). -/
def protectData (st : TableStore) : List Byte := [st.protectedSet, indicator st.chanceUsed]

/-- PROTECT (R167). -/
def serveProtect (ids : List Byte) (s : State) : Served :=
  if ids.any fun b => decide (7 < b.toNat) then ⟨s, .range, protectData s.store⟩
  else if s.store.chanceUsed then ⟨s, .protected_, protectData s.store⟩
  else
    let s := s.withStore { s.store with protectedSet := tableSet ids, chanceUsed := true }
    ⟨s, .ok, protectData s.store⟩

/-! ## Tallies (R151, R153) -/

/-- The tally unit after a freeze (R151). -/
def freeze (clear : Bool) (t : TallyUnit) : TallyUnit where
  live := if clear then Vector.replicate 64 0 else t.live
  liveMarks := Vector.replicate 64 false
  snapshot := t.live
  snapshotMarks := t.liveMarks
  number := t.number + 1
  cursor := 0

/-- A TALLY FREEZE answer (R191). -/
def freezeData (option : Byte) (t : TallyUnit) : List Byte := option :: natBytes 2 t.number.toNat

/-- TALLY FREEZE: option 0 KEEP, 1 CLEAR (R151). -/
def serveTallyFreeze (option : Byte) (s : State) : Served :=
  if option = 0 ∨ option = 1 then
    let s := s.withTally (freeze (decide (option = 1)) s.tally)
    ⟨s, .ok, freezeData option s.tally⟩
  else ⟨s, .range, freezeData option s.tally⟩

/-- The part of a TALLY READ answer that every status carries (R153, R191). -/
def tallyData (t : TallyUnit) : List Byte := natBytes 2 t.number.toNat ++ [byteOf t.cursor]

/-- A snapshot counter and its wrap mark in five bytes (R191). -/
def counterData (t : TallyUnit) (i : Nat) : List Byte :=
  natBytes 4 ((t.snapshot[i]?.map BitVec.toNat).getD 0) ++ [indicator (t.snapshotMarks[i]?.getD false)]

/-- TALLY READ (R153). -/
def serveTallyRead (count : Byte) (start : Option Byte) (s : State) : Served :=
  let i := match start with
    | none => s.tally.cursor
    | some b => b.toNat
  let k := count.toNat
  if k = 0 ∨ 12 < k ∨ (start.isSome ∧ 63 < i) ∨ 64 < i + k then ⟨s, .range, tallyData s.tally⟩
  else
    let s := s.withTally { s.tally with cursor := i + k }
    ⟨s, .ok, tallyData s.tally ++ [byteOf i, byteOf k] ++ (List.range k).flatMap fun j => counterData s.tally (i + j)⟩

/-! ## Postmark clock (R121, R123) -/

/-- The seven clock fields in the order of CLOCK SET (R191). -/
def clockFields (c : Clock) : List Byte :=
  [byteOf c.year, byteOf c.month, byteOf c.day, byteOf c.hour, byteOf c.minute, byteOf c.second, byteOf c.dayOfWeek]

/-- CLOCK SET (R121). -/
def serveClockSet (year month day hour minute second dayOfWeek : Byte) (s : State) : Served :=
  let failure := clockSetFailure year.toNat month.toNat day.toNat hour.toNat minute.toNat second.toNat dayOfWeek.toNat
  if failure = 0 then
    let s := s.withClock
      ⟨year.toNat, month.toNat, day.toNat, hour.toNat, minute.toNat, second.toNat, dayOfWeek.toNat, true, 0⟩
    ⟨s, .ok, 0 :: clockFields s.clock ++ [indicator s.clock.valid]⟩
  else ⟨s, .range, byteOf failure :: clockFields s.clock ++ [indicator s.clock.valid]⟩

/-- CLOCK READ (R123). -/
def serveClockRead (s : State) : Served :=
  let c := cutoverHour s.store.tables
  let d := postmarkDate s.clock c
  ⟨s, .ok, clockFields s.clock
    ++ [indicator s.clock.valid, byteOf c, byteOf d.day, byteOf d.month, byteOf d.year, byteOf s.clock.hour]⟩

/-! ## Condition unit (R187) -/

/-- The flags and the mask as they stand (R187, R191). Bits 20 to 23 of both are sent as 0, which R189 leaves open: DESIGN
CHOICE (notes/assumptions/36.md). -/
def flagsData (c : ConditionUnit) : List Byte := natBytes 3 c.flags.toNat ++ natBytes 3 c.mask.toNat

/-- FLAGS READ (R187). -/
def serveFlagsRead (s : State) : Served := ⟨s, .ok, flagsData s.cond⟩

/-- The flags that a FLAGS CLEAR of a set leaves: CLOCKINVALID stays while the clock is INVALID (R187). -/
def clearedFlags (c : ConditionUnit) (clockValid : Bool) (set : BitVec 20) : BitVec 20 :=
  c.flags &&& ~~~(if clockValid then set else set &&& ~~~(flagBit .clockinvalid))

/-- FLAGS CLEAR; bits 20 to 23 are ignored (R187, R189). -/
def serveFlagsClear (set : BitVec 24) (s : State) : Served :=
  let s := s.withCond { s.cond with flags := clearedFlags s.cond s.clock.valid (set.setWidth 20) }
  ⟨s, .ok, flagsData s.cond⟩

/-- MASK SET (R187). -/
def serveMaskSet (set : BitVec 24) (s : State) : Served :=
  let s := s.withCond { s.cond with mask := set.setWidth 20 }
  ⟨s, .ok, flagsData s.cond⟩

/-! ## HEAD CONTROL (R114) -/

/-- The actions of HEAD CONTROL (R114). -/
inductive HeadAction where
  | enable
  | disable
  | purge
  | abortPurge
  | status
  deriving DecidableEq, Repr

/-- The action of a code (R191). -/
def headActionOf (b : Byte) : Option HeadAction :=
  if b = 0 then some .enable
  else if b = 1 then some .disable
  else if b = 2 then some .purge
  else if b = 3 then some .abortPurge
  else if b = 4 then some .status else none

/-- An action on a head, with its status (R109, R111 to R114). -/
def headAction (a : HeadAction) (h : Fin 4) (s : State) : State × Status :=
  match a with
  | .enable => enableHead h s
  | .disable => (disableHead h s, .ok)
  | .purge => purgeHead h s
  | .abortPurge => abortPurgeHead h s
  | .status => (s, .ok)

/-- What every HEAD CONTROL answer for a head carries (R114, R191). -/
def headData (h : Head) : List Byte :=
  [headStateCode h.state, byteOf h.bookings.length, indicator h.faultWindow.isSome, purgeCode h.lastPurge]

/-- HEAD CONTROL (R114). -/
def serveHeadControl (head action : Byte) (s : State) : Served :=
  if hh : head.toNat < 4 then
    let h : Fin 4 := ⟨head.toNat, hh⟩
    match headActionOf action with
    | none => ⟨s, .range, [head, action] ++ headData s.heads[h]⟩
    | some a =>
      let (s, st) := headAction a h s
      ⟨s, st, [head, action] ++ headData s.heads[h]⟩
  else ⟨s, .range, [head, action, 0xFF, 0xFF, 0xFF, 0xFF]⟩

/-! ## STACKER SWEEP (R144) -/

/-- The stackers of a set, in stacker order (R144). -/
def stackersOf (set : Byte) : List (Fin 8) := (List.finRange 8).filter fun n => set.getLsbD n.val

/-- The 18 bytes of stacker n, with the arrived count that the sweep removed (R144, R191). -/
def stackerData (s : State) (removed : Nat) (n : Fin 8) : List Byte :=
  byteOf s.stackers[n].inFlight :: natBytes 4 s.stackers[n].arrived.toNat ++ natBytes 5 (committed s n)
    ++ natBytes 2 (stackerInForce s n).capacity ++ [lampCode s.stackers[n].lamp, indicator (lampWaiting s n)]
    ++ natBytes 4 removed

/-- STACKER SWEEP (R144). -/
def serveStackerSweep (set : Byte) (s : State) : Served :=
  let s' := (stackersOf set).foldl (fun s n => sweep n s) s
  ⟨s', .ok, (List.finRange 8).flatMap fun n =>
    stackerData s' (if set.getLsbD n.val then s.stackers[n].arrived.toNat else 0) n⟩

/-! ## TRACK READ (R39) -/

/-- The letters from the selection's first on (R39). -/
def selectionFrom (letters : List Letter) (start : Option Seq) : List Letter :=
  match start with
  | none => letters
  | some s => letters.dropWhile fun l => !decide ((l.seq - s).toNat < 32768)

/-- A letter summary of 25 bytes (R39, R191). Bit 7 of the letter flags' byte is sent as 0, which R172 and R191 leave open:
DESIGN CHOICE (notes/assumptions/37.md). -/
def letterData (l : Letter) : List Byte :=
  natBytes 2 l.seq.toNat ++ posBytes l.leading
    ++ (match l.length with
      | none => [0xFF, 0xFF]
      | some n => natBytes 2 n)
    ++ [letterStateCode l.state, flagsByte l.flags]
    ++ (match l.verdict with
      | none => [0xFF, 0xFF, 0, 0xFF]
      | some v =>
        [byteOf (verdictCode v.kind), (v.corner.map fun c => byteOf (cornerNumber c).val).getD 0xFF, byteOf v.markKind,
          (v.signature.map byteOf).getD 0xFF])
    ++ (match l.disposition with
      | none => [0xFF, 0xFF, 0xFF, 0xFF]
      | some d =>
        [pathCode d.path, byteOf d.stacker.val, (d.row.map byteOf).getD 0xFF, (d.cause.map causeCode).getD 0xFF])
    ++ (match l.print with
      | none => [0xFF, 0xFF, 0xFF, 0xFF, 0xFF, 0xFF, 0xFF, 0xFF]
      | some p =>
        [byteOf p.head.val, printStatusCode p.status] ++ posBytes p.start ++ natBytes 2 p.length ++ [byteOf p.pattern.val])

/-- TRACK READ: the summary, up to 3 letters, and the unmatched TRAIL count set to 0 (R39). -/
def serveTrackRead (start : Option Seq) (s : State) : Served :=
  let t := s.track
  let selected := selectionFrom t.letters start
  ⟨s.withTrack { t with unmatched := 0 }, .ok,
    [modeCode t.mode, byteOf t.letters.length] ++ natBytes 2 t.seqCounter.toNat ++ natBytes 2 t.unmatched.toNat
      ++ [indicator (decide (3 < selected.length))] ++ (selected.take 3).flatMap letterData⟩

/-! ## LANE RESET (R185) -/

/-- The blocks at a lane reset, step 1 of R185 (R38, R57, R58, R93, R95, R142, R157). -/
def resetBlocks (s : State) : State :=
  let s := setMode .stopped (resetHeads (abandonLetters countQuiet s))
  let s := s.withStackers (Vector.ofFn fun n => { s.stackers[n] with inFlight := 0 })
  setLoad none s

/-- The queues of the ring port at a lane reset, step 2 of R185: a frame being sent completes, the turn indicator and the link
counters are kept. -/
def resetRing (r : RingPort) : RingPort :=
  { r with forward := [], orders := [], answers := [], intake := [], waiting := [] }

/-- The LAMP order of stacker n at a lane reset, for its recomputed condition (R142). -/
def resyncLamp (s : State) (n : Fin 8) : State :=
  issueLamp n (modifyStacker n (fun k => { k with lamp := lampConditionOf s n }) s)

/-- The condition flags at a lane reset, step 5 of R185: only CLOCKINVALID keeps its state. -/
def resetFlags (c : ConditionUnit) : ConditionUnit := { c with flags := c.flags &&& flagBit .clockinvalid }

/-- The data of the LANE RESET answer (R185, R191). -/
def laneResetData (s : State) (abandoned : Nat) : List Byte :=
  [stationByte s.ring.own, modeCode s.track.mode, byteOf abandoned]

/-- LANE RESET taken from station `src`, in the order of R185. -/
def laneReset (src : Station) (s : State) : State :=
  let abandoned := s.track.letters.length
  let s := resetBlocks s
  let s := s.withRing (resetRing s.ring)
  let s := joinAnswer (.answer src 0x05 .ok 0 true (laneResetData s abandoned)) s
  let s := (List.finRange 8).foldl resyncLamp s
  s.withCond (resetFlags s.cond)

/-! ## Serving (R182) -/

/-- The service of an ask other than LANE RESET, by code and argument bytes (R182, R191). An unknown code is answered UNKNOWN
with no data. -/
def serve (code : Byte) (args : List Byte) (s : State) : Served :=
  if code = 0x01 then (if args = [] then serveIdentify s else badLength s)
  else if code = 0x02 then serveEcho args s
  else if code = 0x03 then (if args = [] then serveLinkStatus s else badLength s)
  else if code = 0x04 then
    match args with
    | target :: entries => if entries.length % 2 = 0 then serveMode target entries s else badLength s
    | [] => badLength s
  else if code = 0x05 then badLength s
  else if code = 0x06 then
    match args with
    | [t, f, n] => serveTableOpen t f n s
    | _ => badLength s
  else if code = 0x07 then serveTableRow args s
  else if code = 0x08 then
    match args with
    | [a, b] => serveTableCommit (le16 a b) s
    | _ => badLength s
  else if code = 0x09 then (if args = [] then serveTableAbort s else badLength s)
  else if code = 0x0A then
    match args with
    | [k] => serveTableRead k none s
    | [k, t, r] => serveTableRead k (some (t, r)) s
    | _ => badLength s
  else if code = 0x0B then (if args.length ≤ 8 then serveProtect args s else badLength s)
  else if code = 0x0C then
    match args with
    | [o] => serveTallyFreeze o s
    | _ => badLength s
  else if code = 0x0D then
    match args with
    | [k] => serveTallyRead k none s
    | [k, i] => serveTallyRead k (some i) s
    | _ => badLength s
  else if code = 0x0E then
    match args with
    | [y, m, d, h, mi, sec, w] => serveClockSet y m d h mi sec w s
    | _ => badLength s
  else if code = 0x0F then (if args = [] then serveClockRead s else badLength s)
  else if code = 0x10 then (if args = [] then serveFlagsRead s else badLength s)
  else if code = 0x11 then
    match args with
    | [a, b, c] => serveFlagsClear (le24 a b c) s
    | _ => badLength s
  else if code = 0x12 then
    match args with
    | [a, b, c] => serveMaskSet (le24 a b c) s
    | _ => badLength s
  else if code = 0x13 then
    match args with
    | [h, a] => serveHeadControl h a s
    | _ => badLength s
  else if code = 0x14 then
    match args with
    | [set] => serveStackerSweep set s
    | _ => badLength s
  else if code = 0x15 then
    match args with
    | [] => serveTrackRead none s
    | [a, b] => serveTrackRead (some (le16 a b)) s
    | _ => badLength s
  else ⟨s, .unknown, []⟩

/-- The greatest number of data bytes in an answer part (R182). -/
def partSize : Nat := 53

/-- An answer's data cut into parts, every part but the last of 53 bytes; an answer without data has one part (R182, R191). -/
def answerParts (data : List Byte) : List (List Byte) :=
  if data.length ≤ partSize then [data]
  else if data.length ≤ 2 * partSize then [data.take partSize, data.drop partSize]
  else [data.take partSize, (data.drop partSize).take partSize, data.drop (2 * partSize)]

/-- The parts of an answer join the answer queue in order, numbered from n, the last one marked (R182). -/
def joinParts (dest : Station) (code : Byte) (status : Status) : Nat → List (List Byte) → State → State
  | _, [], s => s
  | n, [d], s => joinAnswer (.answer dest code status n true d) s
  | n, d :: ds, s => joinParts dest code status (n + 1) ds (joinAnswer (.answer dest code status n false d) s)

/-- A whole answer joins the answer queue. -/
def joinWhole (dest : Station) (code : Byte) (r : Served) : State :=
  joinParts dest code r.status 0 (answerParts r.data) r.state

/-- An ask is the LANE RESET ask (R185). -/
def isLaneReset (a : IntakeAsk) : Bool := decide (a.code = 0x05 ∧ a.args = [])

/-- How many parts the answer to an ask takes (R182). -/
def partsNeeded (a : IntakeAsk) (s : State) : Nat :=
  if isLaneReset a then 1 else (answerParts (serve a.code a.args s).data).length

/-- The places kept for an answer being formed (notes/assumptions/10.md). -/
def setReserved (n : Nat) (s : State) : State := s.withRing { s.ring with reserved := n }

/-- One ask served: its effect with the places of its answer kept, then its answer (R182). -/
def serveAsk (a : IntakeAsk) (s : State) : State :=
  if isLaneReset a then laneReset a.src s
  else
    let r := serve a.code a.args (setReserved (partsNeeded a s) s)
    joinWhole a.src a.code { r with state := setReserved 0 r.state }

/-- The head ask leaves the intake. -/
def popIntake (s : State) : State := s.withRing { s.ring with intake := s.ring.intake.drop 1 }

/-- Asks served from the head of the intake while the answer queue has room for every part of the next answer (R182); at most
`fuel` of them. -/
def serveAsks : Nat → State → State
  | 0, s => s
  | fuel + 1, s =>
    match s.ring.intake with
    | [] => s
    | a :: _ => if partsNeeded a (popIntake s) ≤ freeAnswerPlaces s then serveAsks fuel (serveAsk a (popIntake s)) else s

/-- Every ask that the room allows is served; serving adds none (R182). -/
def serveIntake (s : State) : State := serveAsks s.ring.intake.length s

/-- An ASK frame handed to the intake: dropped when it holds 4; served at its joining when it was empty (R182). -/
def takeAsk (src : Station) (code : Byte) (args : List Byte) (s : State) : State :=
  if intakeCapacity ≤ s.ring.intake.length then modifyCounters (fun c => { c with askDrop := satInc16 c.askDrop }) s
  else
    let s' := s.withRing { s.ring with intake := s.ring.intake ++ [⟨src, code, args⟩] }
    if s.ring.intake = [] then serveIntake s' else s'

end Sys2Proof.Machine
end

