-- ==== Sys2Proof/Machine/RingPort.lean ====
section
/-! DEFINITION. The input of the ring port: the form of a frame, its sorting by source and destination, forwarding, and the
handling of a taken frame by its kind (R175 to R177, R181). -/

namespace Sys2Proof.Machine

/-- A bad frame: the bad-check count rises and LINKERR is set (R175). -/
def discardBadFrame (s : State) : State :=
  setFlag .linkerr (modifyCounters (fun c => { c with badCheck := satInc16 c.badCheck }) s)

/-- A frame to be forwarded: it joins the forward queue unchanged, or finds 8 frames there and is dropped and counted (R176,
R181). -/
def forwardFrame (f : Frame) (s : State) : State :=
  if s.ring.forward.length < forwardCapacity then joinForward f s
  else setFlag .fwddrop (modifyCounters (fun c => { c with forwardDrop := satInc16 c.forwardDrop }) s)

/-- A taken frame that says m, from the station `src` (R177). A positioned frame's position is taken before its content
(R3). -/
def takeMessage (src : Station) (m : Message) (s : State) : State :=
  match m with
  | .tick f => takePosition f s
  | .leadEdge f => leadEdgeAt f (takePosition f s)
  | .trailEdge f => trailEdgeAt f (takePosition f s)
  | .line h f samples => takeLine h f samples (takePosition f s)
  | .arrive n x => arriveReport n x s
  | .swept n => sweptReport n s
  | .headfault h tag => headfaultReport h tag s
  | .purgedone h o => purgedoneReport h o s
  | .ask code args => takeAsk src code args s

/-- A good frame sorted by its source and destination, in the row order of R176; `taken` handles it where the part takes it. A
broadcast frame joins the forward queue before it is handled (notes/assumptions/11.md). -/
def routeFrame (f : Frame) (taken : State → State) (s : State) : State :=
  if station f.src = s.ring.own then s
  else if station f.dest = s.ring.own then taken s
  else if station f.dest = broadcast then taken (forwardFrame f s)
  else forwardFrame f s

/-- A taken frame handled by its kind, or discarded and counted as unknown (R177). -/
def takeFrame (f : Frame) (s : State) : State :=
  match messageOf f.kind f.payload with
  | some m => takeMessage (station f.src) m s
  | none => countUnknownKind s

/-- A frame with a good check at the ring input; a payload above 56 bytes makes it bad (R175, R176). -/
def receive (f : Frame) (s : State) : State :=
  if maxPayload < f.payload.length then discardBadFrame s else routeFrame f (takeFrame f) s

/-- The bytes of one delimited frame at the ring input (R175). -/
def receiveBytes (bytes : List Byte) (s : State) : State :=
  match parseFrame bytes with
  | none => discardBadFrame s
  | some f => receive f s

/-- The frame that carries a message at the ring input, under given header bytes (R175 to R177). -/
def deliver (dest src : Byte) (m : Message) (s : State) : State :=
  if maxPayload < (messagePayload m).length then discardBadFrame s
  else routeFrame (messageFrame dest src m) (takeMessage (station src) m) s

end Sys2Proof.Machine
end

