-- ==== Sys2Proof/Machine/AskRows.lean ====
section
/-! DEFINITION. The commands of the asks, each the arrival of an ASK frame with that ask's code and its argument bytes
(R182, R191, notes/assumptions/6.md). -/

namespace Sys2Proof.Machine

/-- IDENTIFY (R183). -/
def execIdentify (dest src : Byte) (s : State) : Host.Outcome State Fault Refusal :=
  .next (deliver dest src (.ask 0x01 []) s)

/-- ECHO (R183). -/
def execEcho (dest src : Byte) (args : List Byte) (s : State) : Host.Outcome State Fault Refusal :=
  .next (deliver dest src (.ask 0x02 args) s)

/-- LINK STATUS (R184). -/
def execLinkStatus (dest src : Byte) (s : State) : Host.Outcome State Fault Refusal :=
  .next (deliver dest src (.ask 0x03 []) s)

/-- MODE (R21 to R26). -/
def execMode (dest src : Byte) (target : Byte) (entries : List (Byte × Byte)) (s : State) :
    Host.Outcome State Fault Refusal :=
  .next (deliver dest src (.ask 0x04 (modeArgs target entries)) s)

/-- LANE RESET (R185). -/
def execLaneReset (dest src : Byte) (s : State) : Host.Outcome State Fault Refusal :=
  .next (deliver dest src (.ask 0x05 []) s)

/-- TABLE OPEN (R159). -/
def execTableOpen (dest src : Byte) (table first count : Byte) (s : State) : Host.Outcome State Fault Refusal :=
  .next (deliver dest src (.ask 0x06 [table, first, count]) s)

/-- TABLE ROW (R160). -/
def execTableRow (dest src : Byte) (row : List Byte) (s : State) : Host.Outcome State Fault Refusal :=
  .next (deliver dest src (.ask 0x07 row) s)

/-- TABLE COMMIT (R161 to R163). -/
def execTableCommit (dest src : Byte) (sum : BitVec 16) (s : State) : Host.Outcome State Fault Refusal :=
  .next (deliver dest src (.ask 0x08 (natBytes 2 sum.toNat)) s)

/-- TABLE ABORT (R164). -/
def execTableAbort (dest src : Byte) (s : State) : Host.Outcome State Fault Refusal :=
  .next (deliver dest src (.ask 0x09 []) s)

/-- TABLE READ (R169). -/
def execTableRead (dest src : Byte) (count : Byte) (position : Option (Byte × Byte)) (s : State) :
    Host.Outcome State Fault Refusal :=
  .next (deliver dest src (.ask 0x0A (tableReadArgs count position)) s)

/-- PROTECT (R167). -/
def execProtect (dest src : Byte) (tables : List Byte) (s : State) : Host.Outcome State Fault Refusal :=
  .next (deliver dest src (.ask 0x0B tables) s)

/-- TALLY FREEZE (R151). -/
def execTallyFreeze (dest src : Byte) (option : Byte) (s : State) : Host.Outcome State Fault Refusal :=
  .next (deliver dest src (.ask 0x0C [option]) s)

/-- TALLY READ (R153). -/
def execTallyRead (dest src : Byte) (count : Byte) (start : Option Byte) (s : State) :
    Host.Outcome State Fault Refusal :=
  .next (deliver dest src (.ask 0x0D (tallyReadArgs count start)) s)

/-- CLOCK SET (R121). -/
def execClockSet (dest src : Byte) (year month day hour minute second dayOfWeek : Byte) (s : State) :
    Host.Outcome State Fault Refusal :=
  .next (deliver dest src (.ask 0x0E [year, month, day, hour, minute, second, dayOfWeek]) s)

/-- CLOCK READ (R123). -/
def execClockRead (dest src : Byte) (s : State) : Host.Outcome State Fault Refusal :=
  .next (deliver dest src (.ask 0x0F []) s)

/-- FLAGS READ (R187). -/
def execFlagsRead (dest src : Byte) (s : State) : Host.Outcome State Fault Refusal :=
  .next (deliver dest src (.ask 0x10 []) s)

/-- FLAGS CLEAR (R187). -/
def execFlagsClear (dest src : Byte) (set : BitVec 24) (s : State) : Host.Outcome State Fault Refusal :=
  .next (deliver dest src (.ask 0x11 (natBytes 3 set.toNat)) s)

/-- MASK SET (R187). -/
def execMaskSet (dest src : Byte) (set : BitVec 24) (s : State) : Host.Outcome State Fault Refusal :=
  .next (deliver dest src (.ask 0x12 (natBytes 3 set.toNat)) s)

/-- HEAD CONTROL with action ENABLE (R112). -/
def execHeadControlEnable (dest src : Byte) (head : Byte) (s : State) : Host.Outcome State Fault Refusal :=
  .next (deliver dest src (.ask 0x13 [head, 0]) s)

/-- HEAD CONTROL with action DISABLE (R113). -/
def execHeadControlDisable (dest src : Byte) (head : Byte) (s : State) : Host.Outcome State Fault Refusal :=
  .next (deliver dest src (.ask 0x13 [head, 1]) s)

/-- HEAD CONTROL with action PURGE (R109). -/
def execHeadControlPurge (dest src : Byte) (head : Byte) (s : State) : Host.Outcome State Fault Refusal :=
  .next (deliver dest src (.ask 0x13 [head, 2]) s)

/-- HEAD CONTROL with action ABORT PURGE (R111). -/
def execHeadControlAbortPurge (dest src : Byte) (head : Byte) (s : State) : Host.Outcome State Fault Refusal :=
  .next (deliver dest src (.ask 0x13 [head, 3]) s)

/-- HEAD CONTROL with action STATUS (R114). -/
def execHeadControlStatus (dest src : Byte) (head : Byte) (s : State) : Host.Outcome State Fault Refusal :=
  .next (deliver dest src (.ask 0x13 [head, 4]) s)

/-- STACKER SWEEP (R144). -/
def execStackerSweep (dest src : Byte) (set : Byte) (s : State) : Host.Outcome State Fault Refusal :=
  .next (deliver dest src (.ask 0x14 [set]) s)

/-- TRACK READ (R39). -/
def execTrackRead (dest src : Byte) (start : Option Seq) (s : State) : Host.Outcome State Fault Refusal :=
  .next (deliver dest src (.ask 0x15 (trackReadArgs start)) s)

/-- UNKNOWN_ASK: an ask whose code names no ask (R182). -/
def execUnknownAsk (dest src : Byte) (code : Byte) (args : List Byte) (s : State) :
    Host.Outcome State Fault Refusal :=
  .next (deliver dest src (.ask code args) s)

end Sys2Proof.Machine
end

