-- ==== Sys2Proof/Machine/Timebase.lean ====
section
/-! DEFINITION. The events that no frame brings: TBASE periods, timers at a millisecond event, the end of a sending, the reset pin
(R13, R15, R116, R179). -/

namespace Sys2Proof.Machine

/-- A running timer after a millisecond event that does not expire it (R13). -/
def countDown (t : Timer) : Timer := { t with left := t.left - 1 }

/-- A millisecond event at the fault window of head h (R13, R106). -/
def windowMillisecond (h : Fin 4) (s : State) : State :=
  match s.heads[h].faultWindow with
  | none => s
  | some t =>
    if t.left ≤ 1 then windowExpiry h s else modifyHead h (fun k => { k with faultWindow := some (countDown t) }) s

/-- A millisecond event at the purge timer of head h (R13, R108). -/
def purgeMillisecond (h : Fin 4) (s : State) : State :=
  match s.heads[h].purge with
  | none => s
  | some t => if t.left ≤ 1 then purgeExpiry h s else modifyHead h (fun k => { k with purge := some (countDown t) }) s

/-- A millisecond event at the restart timer of head h (R13, R106). -/
def restartMillisecond (h : Fin 4) (s : State) : State :=
  match s.heads[h].restart with
  | none => s
  | some t => if t.left ≤ 1 then restartExpiry h s else modifyHead h (fun k => { k with restart := some (countDown t) }) s

/-- A millisecond event at the timers of head h. The restart timer comes last, so that the window it opens starts to count at
the next millisecond event (R13, notes/assumptions/16.md). -/
def headMillisecond (s : State) (h : Fin 4) : State := restartMillisecond h (purgeMillisecond h (windowMillisecond h s))

/-- A millisecond event: every head's timers, in head order (R13, notes/assumptions/16.md). -/
def millisecondEvent (s : State) : State := (List.finRange 4).foldl headMillisecond s

/-- The TBASE periods between two millisecond events (R13). -/
def millisecondPeriods : Nat := 1000

/-- The TBASE periods between two second events (R116). -/
def secondPeriods : Nat := 1000000

/-- One TBASE period's part in the millisecond events (R13). -/
def millisecondTick (s : State) : State :=
  if s.time.msPhase + 1 < millisecondPeriods then s.withTime { s.time with msPhase := s.time.msPhase + 1 }
  else millisecondEvent (s.withTime { s.time with msPhase := 0 })

/-- One TBASE period's part in the second events (R116). -/
def secondTick (s : State) : State :=
  if s.clock.phase + 1 < secondPeriods then s.withClock { s.clock with phase := s.clock.phase + 1 } else secondEventAt s

/-- One TBASE period, in which nothing else happens; none counts while RSTn is asserted (R13, R116). -/
def timebaseTick (s : State) : State := if s.time.rstnAsserted then s else secondTick (millisecondTick s)

/-- The grant that follows the end of a sending; a grant that frees a place of the answer queue lets waiting asks be served
(R179, R182). -/
def grantNext (s : State) : State :=
  if (grant s).ring.answers.length < s.ring.answers.length then serveIntake (grant s) else grant s

/-- The end of a frame's sending: the output becomes IDLE and the next grant follows in the same event (R179). With the output
IDLE nothing ends (notes/assumptions/5.md). -/
def completeSending (s : State) : State :=
  if s.ring.sending.isSome then grantNext (s.withRing { s.ring with sending := none }) else s

/-- RSTn asserted while the straps read `straps`: every block takes its power-on values (R15, R176). The two fields of the
model's own, the queue of commands and the count of settled choices, are kept. -/
def assertReset (straps : Station) (s : State) : State :=
  ((State.powerOn straps).withPending s.pending).withChoices s.choices

/-- RSTn released: the two divisions of TBASE count from here (R13, R116). -/
def releaseReset (s : State) : State :=
  if s.time.rstnAsserted then (s.withTime ⟨false, 0⟩).withClock { s.clock with phase := 0 } else s

end Sys2Proof.Machine
end

