-- ==== Sys2Proof/Machine/Events.lean ====
section
/-! DEFINITION. The commands that no frame carries: the reset pin, completions, timer expiries, second events. -/

namespace Sys2Proof.Machine

/-- POWER_ON_RESET: RSTn is asserted while the straps read `straps` (R15, R176). -/
def execPowerOnReset (straps : Station) (s : State) : Host.Outcome State Fault Refusal := .next (assertReset straps s)

/-- EVALUATION_COMPLETION: the evaluation in flight completes (R61, R62). -/
def execEvaluationCompletion (s : State) : Host.Outcome State Fault Refusal := .next (completeEvaluation s)

/-- SENDING_COMPLETION: the frame being sent has gone (R179). -/
def execSendingCompletion (s : State) : Host.Outcome State Fault Refusal := .next (completeSending s)

/-- RESTART_TIMER_EXPIRY of a head (R106). -/
def execRestartTimerExpiry (head : Fin 4) (s : State) : Host.Outcome State Fault Refusal := .next (restartExpiry head s)

/-- FAULT_WINDOW_EXPIRY of a head (R106). -/
def execFaultWindowExpiry (head : Fin 4) (s : State) : Host.Outcome State Fault Refusal := .next (windowExpiry head s)

/-- PURGE_TIMEOUT of a head (R108). -/
def execPurgeTimeout (head : Fin 4) (s : State) : Host.Outcome State Fault Refusal := .next (purgeExpiry head s)

/-- SECOND_EVENT of the clock (R117). -/
def execSecondEvent (s : State) : Host.Outcome State Fault Refusal := .next (secondEventAt s)

/-- RESET_RELEASE: RSTn is released (R116). -/
def execResetRelease (s : State) : Host.Outcome State Fault Refusal := .next (releaseReset s)

end Sys2Proof.Machine
end

