-- ==== Sys2Proof/Machine/Positioned.lean ====
section
/-! DEFINITION. The commands of the positioned frames: TICK, LEAD_EDGE, TRAIL_EDGE, LINE. -/

namespace Sys2Proof.Machine

/-- TICK: a positioned frame whose position may advance the belt (R3, R4). -/
def execTick (dest src : Byte) (pos : Pos) (s : State) : Host.Outcome State Fault Refusal :=
  .next (deliver dest src (.tick pos) s)

/-- LEAD_EDGE: a LEAD edge (R3, R28). -/
def execLeadEdge (dest src : Byte) (pos : Pos) (s : State) : Host.Outcome State Fault Refusal :=
  .next (deliver dest src (.leadEdge pos) s)

/-- TRAIL_EDGE: a TRAIL edge (R3, R32, R33). -/
def execTrailEdge (dest src : Byte) (pos : Pos) (s : State) : Host.Outcome State Fault Refusal :=
  .next (deliver dest src (.trailEdge pos) s)

/-- LINE: one line of a scan head (R3, R41). -/
def execLine (dest src : Byte) (head : ScanHead) (pos : Pos) (samples : Vector (BitVec 16) 24) (s : State) :
    Host.Outcome State Fault Refusal :=
  .next (deliver dest src (.line head pos samples) s)

end Sys2Proof.Machine
end

