-- ==== Sys2Proof/Machine/Reports.lean ====
section
/-! DEFINITION. The commands of the REPORT frames: ARRIVE, SWEPT, HEADFAULT, PURGEDONE. -/

namespace Sys2Proof.Machine

/-- ARRIVE: a letter seen at a stacker (R139, R140). -/
def execArrive (dest src : Byte) (stacker : Byte) (pos : Pos) (s : State) : Host.Outcome State Fault Refusal :=
  .next (deliver dest src (.arrive stacker pos) s)

/-- SWEPT: a stacker emptied by hand (R143). -/
def execSwept (dest src : Byte) (stacker : Byte) (s : State) : Host.Outcome State Fault Refusal :=
  .next (deliver dest src (.swept stacker) s)

/-- HEADFAULT: a fault of a cancel head, with or without a tag (R104, R105). -/
def execHeadfault (dest src : Byte) (head : Byte) (tag : Option Seq) (s : State) : Host.Outcome State Fault Refusal :=
  .next (deliver dest src (.headfault head tag) s)

/-- PURGEDONE: the end of a purge (R107). -/
def execPurgedone (dest src : Byte) (head : Byte) (outcome : PurgeReport) (s : State) :
    Host.Outcome State Fault Refusal :=
  .next (deliver dest src (.purgedone head outcome) s)

end Sys2Proof.Machine
end

