-- ==== Sys2Proof/Machine/RingFrames.lean ====
section
/-! DEFINITION. The commands of the ring port: ASK, BAD_FRAME, FORWARDED_FRAME, OWN_FRAME_RETURN, UNKNOWN_KIND. -/

namespace Sys2Proof.Machine

/-- ASK: any ask code with any argument bytes (R182). -/
def execAsk (dest src : Byte) (code : Byte) (args : List Byte) (s : State) : Host.Outcome State Fault Refusal :=
  .next (deliver dest src (.ask code args) s)

/-- BAD_FRAME: delimited bytes that fail the test of form are discarded and counted (R175). -/
def execBadFrame (bytes : List Byte) (s : State) : Host.Outcome State Fault Refusal := .next (receiveBytes bytes s)

/-- FORWARDED_FRAME: a good frame for another station, or a broadcast (R176, R181). -/
def execForwardedFrame (frame : Frame) (s : State) : Host.Outcome State Fault Refusal := .next (receive frame s)

/-- OWN_FRAME_RETURN: a frame of the part's own that has gone round the ring (R176). -/
def execOwnFrameReturn (frame : Frame) (s : State) : Host.Outcome State Fault Refusal := .next (receive frame s)

/-- UNKNOWN_KIND: a taken frame that says nothing the part takes (R177). -/
def execUnknownKind (frame : Frame) (s : State) : Host.Outcome State Fault Refusal := .next (receive frame s)

end Sys2Proof.Machine
end

