-- ==== Sys2Proof/Machine/Dispatch.lean ====
section
/-! DEFINITION. One arm for each command. -/

namespace Sys2Proof.Machine

def exec (i : Instr) (s : State) : Host.Outcome State Fault Refusal :=
  match i with
  | .powerOnReset straps => Sys2Proof.Machine.execPowerOnReset straps s
  | .tick dest src pos => Sys2Proof.Machine.execTick dest src pos s
  | .leadEdge dest src pos => Sys2Proof.Machine.execLeadEdge dest src pos s
  | .trailEdge dest src pos => Sys2Proof.Machine.execTrailEdge dest src pos s
  | .line dest src head pos samples => Sys2Proof.Machine.execLine dest src head pos samples s
  | .arrive dest src stacker pos => Sys2Proof.Machine.execArrive dest src stacker pos s
  | .swept dest src stacker => Sys2Proof.Machine.execSwept dest src stacker s
  | .headfault dest src head tag => Sys2Proof.Machine.execHeadfault dest src head tag s
  | .purgedone dest src head outcome => Sys2Proof.Machine.execPurgedone dest src head outcome s
  | .ask dest src code args => Sys2Proof.Machine.execAsk dest src code args s
  | .badFrame bytes => Sys2Proof.Machine.execBadFrame bytes s
  | .forwardedFrame frame => Sys2Proof.Machine.execForwardedFrame frame s
  | .ownFrameReturn frame => Sys2Proof.Machine.execOwnFrameReturn frame s
  | .unknownKind frame => Sys2Proof.Machine.execUnknownKind frame s
  | .identify dest src => Sys2Proof.Machine.execIdentify dest src s
  | .echo dest src args => Sys2Proof.Machine.execEcho dest src args s
  | .linkStatus dest src => Sys2Proof.Machine.execLinkStatus dest src s
  | .mode dest src target entries => Sys2Proof.Machine.execMode dest src target entries s
  | .laneReset dest src => Sys2Proof.Machine.execLaneReset dest src s
  | .tableOpen dest src table first count => Sys2Proof.Machine.execTableOpen dest src table first count s
  | .tableRow dest src row => Sys2Proof.Machine.execTableRow dest src row s
  | .tableCommit dest src sum => Sys2Proof.Machine.execTableCommit dest src sum s
  | .tableAbort dest src => Sys2Proof.Machine.execTableAbort dest src s
  | .tableRead dest src count position => Sys2Proof.Machine.execTableRead dest src count position s
  | .protect dest src tables => Sys2Proof.Machine.execProtect dest src tables s
  | .tallyFreeze dest src option => Sys2Proof.Machine.execTallyFreeze dest src option s
  | .tallyRead dest src count start => Sys2Proof.Machine.execTallyRead dest src count start s
  | .clockSet dest src year month day hour minute second dayOfWeek => Sys2Proof.Machine.execClockSet dest src year month day hour minute second dayOfWeek s
  | .clockRead dest src => Sys2Proof.Machine.execClockRead dest src s
  | .flagsRead dest src => Sys2Proof.Machine.execFlagsRead dest src s
  | .flagsClear dest src set => Sys2Proof.Machine.execFlagsClear dest src set s
  | .maskSet dest src set => Sys2Proof.Machine.execMaskSet dest src set s
  | .headControlEnable dest src head => Sys2Proof.Machine.execHeadControlEnable dest src head s
  | .headControlDisable dest src head => Sys2Proof.Machine.execHeadControlDisable dest src head s
  | .headControlPurge dest src head => Sys2Proof.Machine.execHeadControlPurge dest src head s
  | .headControlAbortPurge dest src head => Sys2Proof.Machine.execHeadControlAbortPurge dest src head s
  | .headControlStatus dest src head => Sys2Proof.Machine.execHeadControlStatus dest src head s
  | .stackerSweep dest src set => Sys2Proof.Machine.execStackerSweep dest src set s
  | .trackRead dest src start => Sys2Proof.Machine.execTrackRead dest src start s
  | .unknownAsk dest src code args => Sys2Proof.Machine.execUnknownAsk dest src code args s
  | .evaluationCompletion => Sys2Proof.Machine.execEvaluationCompletion s
  | .sendingCompletion => Sys2Proof.Machine.execSendingCompletion s
  | .restartTimerExpiry head => Sys2Proof.Machine.execRestartTimerExpiry head s
  | .faultWindowExpiry head => Sys2Proof.Machine.execFaultWindowExpiry head s
  | .purgeTimeout head => Sys2Proof.Machine.execPurgeTimeout head s
  | .secondEvent => Sys2Proof.Machine.execSecondEvent s
  | .resetRelease => Sys2Proof.Machine.execResetRelease s

end Sys2Proof.Machine
end

