-- ==== Sys2Proof/Machine/Step.lean ====
section
/-! DEFINITION. The step: the command at the front of the queue, or one TBASE period when none waits. -/

namespace Sys2Proof.Machine

/-- One step: the first waiting command acts on the state with the rest of the queue; with none waiting one TBASE period passes
(notes/assumptions/4.md). -/
def step (s : State) : Host.Outcome State Fault Refusal :=
  match s.pending with
  | [] => .next (timebaseTick s)
  | c :: rest => exec c (s.withPending rest)

/-- The command that a word spells put at the front of the queue; the state unchanged where the word spells none. The table
gives no row any bits, so no word spells a command. -/
def State.withFetchWord (s : State) (nbits w : Nat) : State :=
  match decodeTableWord nbits w with
  | none => s
  | some c => s.withPending (c :: s.pending)

end Sys2Proof.Machine
end

