-- ==== Sys2Proof/Safety.lean ====
section
/-! DEFINITION. What claims speak of: the blocks a step leaves alone, and the invariants that every step keeps. -/

namespace Sys2Proof.Machine

/-! ## What a step leaves alone -/

/-- The fields of State by name. -/
inductive Block where
  | position
  | track
  | scan
  | eval
  | routing
  | heads
  | clock
  | stackers
  | tally
  | store
  | cond
  | ring
  | time
  | choices
  | pending
  deriving DecidableEq, Repr

/-- Two states agree on a block. -/
def Block.agree (b : Block) (s t : State) : Prop :=
  match b with
  | .position => t.position = s.position
  | .track => t.track = s.track
  | .scan => t.scan = s.scan
  | .eval => t.eval = s.eval
  | .routing => t.routing = s.routing
  | .heads => t.heads = s.heads
  | .clock => t.clock = s.clock
  | .stackers => t.stackers = s.stackers
  | .tally => t.tally = s.tally
  | .store => t.store = s.store
  | .cond => t.cond = s.cond
  | .ring => t.ring = s.ring
  | .time => t.time = s.time
  | .choices => t.choices = s.choices
  | .pending => t.pending = s.pending

/-- From s to t only blocks of the list change. -/
def changesOnly (bs : List Block) (s t : State) : Prop := ∀ b : Block, b ∉ bs → b.agree s t

/-! ## Invariants -/

/-- The ring port's queues are within their capacities; an order waits only behind a full order queue; each waiting place holds
one order; an IDLE output has nothing to send; no place is kept between events (R178 to R180). -/
def ringInvariant (r : RingPort) : Prop :=
  r.forward.length ≤ forwardCapacity ∧ r.orders.length ≤ orderCapacity ∧ r.answers.length ≤ answerCapacity
    ∧ r.intake.length ≤ intakeCapacity
    ∧ (r.waiting ≠ [] → r.orders.length = orderCapacity)
    ∧ (r.waiting.map Waiting.place).Nodup
    ∧ (r.sending = none → r.orders = [] ∧ r.forward = [] ∧ r.answers = [])
    ∧ r.reserved = 0

/-- The clock holds a calendar date and a time of day (R116, R118). -/
def clockInvariant (c : Clock) : Prop :=
  c.year ≤ 99 ∧ 1 ≤ c.month ∧ c.month ≤ 12 ∧ 1 ≤ c.day ∧ c.day ≤ monthLength c.year c.month ∧ c.hour ≤ 23
    ∧ c.minute ≤ 59 ∧ c.second ≤ 59 ∧ 1 ≤ c.dayOfWeek ∧ c.dayOfWeek ≤ 7 ∧ c.phase < secondPeriods

/-- CLOCKINVALID is set while the clock is INVALID (R120). -/
def clockFlagInvariant (s : State) : Prop := s.clock.valid = false → flagSet s .clockinvalid = true

/-- Every bg8 value lies in 0 to 8,184 and no line store holds more than 96 partials (R42, R46). -/
def scanInvariant (u : ScanUnit) : Prop :=
  (∀ i : Fin 24, u.backgroundF[i] ≤ 8184 ∧ u.backgroundR[i] ≤ 8184)
    ∧ u.storeF.length ≤ storeCapacity ∧ u.storeR.length ≤ storeCapacity

/-- A head's timers, window, bookings and abort indicator fit its state (R95, R101, R104 to R111). -/
def headInvariant (k : Head) : Prop :=
  (k.restart.isSome = true ↔ k.state = .resting)
    ∧ (k.purge.isSome = true ↔ k.state = .purging)
    ∧ (k.faultWindow.isSome = true → k.state = .ready ∨ k.state = .purgeWait ∨ k.state = .purging)
    ∧ (k.abort = true → k.state = .purging)
    ∧ (k.bookings ≠ [] → k.state = .ready ∨ k.state = .purgeWait)
    ∧ (k.state = .purgeWait → k.bookings ≠ [])
    ∧ k.bookings.length ≤ bookingCapacity

/-- The letters that wait for evaluation, in track order (R59). -/
def queuedNumbers (s : State) : List Seq :=
  (s.track.letters.filter fun l => decide (l.state = .queued)).map Letter.seq

/-- The track holds at most 32 letters with distinct numbers. Only the youngest may be OPEN, and the scan context is that
letter's and present while one is OPEN. A letter that is not OPEN has a length and windows; one is ROUTED exactly when it has
a disposition, and then it has an arrival window (R15 to R18, R40, R47, R48). -/
def trackInvariant (s : State) : Prop :=
  s.track.letters.length ≤ trackCapacity
    ∧ (s.track.letters.map Letter.seq).Nodup
    ∧ (∀ l ∈ s.track.letters.dropLast, l.state ≠ .opened)
    ∧ ((openLetter s).map (fun l => (l.seq, l.leading)) = s.scan.context.map fun c => (c.seq, c.leading))
    ∧ (∀ l ∈ s.track.letters, l.state ≠ .opened → l.length.isSome = true ∧ l.windows.isSome = true)
    ∧ (∀ l ∈ s.track.letters, l.disposition.isSome = decide (l.state = .routed)
        ∧ l.window.isSome = decide (l.state = .routed))

/-- The evaluation queue is the QUEUED letters in track order; an IDLE unit has neither queue nor subject; the subject is in the
track, EVALUATING or ROUTED; an EVALUATING letter is the subject (R58 to R63). -/
def evalInvariant (s : State) : Prop :=
  s.eval.queue = queuedNumbers s
    ∧ (s.eval.busy = false → s.eval.queue = [] ∧ s.eval.subject = none)
    ∧ (∀ q, s.eval.subject = some q → ∃ l ∈ s.track.letters, l.seq = q ∧ (l.state = .evaluating ∨ l.state = .routed))
    ∧ (∀ l ∈ s.track.letters, l.state = .evaluating → s.eval.subject = some l.seq)

/-- The letters on their way to stacker n (R127). -/
def lettersTo (s : State) (n : Fin 8) : List Letter :=
  s.track.letters.filter fun l =>
    match l.disposition with
    | some d => decide (d.stacker = n)
    | none => false

/-- Each in-flight count is the number of letters routed to its stacker (R127, R130). -/
def stackerInvariant (s : State) : Prop := ∀ n : Fin 8, s.stackers[n].inFlight = (lettersTo s n).length

/-- The track is empty in STOPPED and SERVICE and holds a letter in DRAINING (R20, R25, R26). -/
def modeInvariant (s : State) : Prop :=
  (laneRuns s.track.mode = false → s.track.letters = []) ∧ (s.track.mode = .draining → s.track.letters ≠ [])

/-- The gate plan holds at most 32 entries (R90). -/
def planInvariant (u : RoutingUnit) : Prop := u.plan.length ≤ planCapacity

/-- Every row of ROUTING in force has passed its validation (R77, R157). -/
def routingRowsGood (s : State) : Prop := ∀ i, i < 48 → goodRouting (rowInForce s.store.tables i) = true

/-- Whether a load fits its table (R159, R160). -/
def loadInvariant (st : TableStore) : Prop :=
  ∀ l, st.load = some l → 1 ≤ l.declared ∧ l.first + l.declared ≤ rowCount l.table ∧ l.rows.length ≤ l.declared

/-- All the invariants together. -/
def Invariant (s : State) : Prop :=
  ringInvariant s.ring ∧ clockInvariant s.clock ∧ clockFlagInvariant s ∧ scanInvariant s.scan
    ∧ (∀ h : Fin 4, headInvariant s.heads[h]) ∧ trackInvariant s ∧ evalInvariant s ∧ stackerInvariant s ∧ modeInvariant s
    ∧ planInvariant s.routing ∧ routingRowsGood s ∧ loadInvariant s.store

/-! ## The circumstances of a command -/

/-- A frame with these header bytes is taken by the part and not forwarded (R176). -/
def addressedToPart (dest src : Byte) (s : State) : Prop := station src ≠ s.ring.own ∧ station dest = s.ring.own

/-- An ask that arrives now is served in its own event and has room for an answer of some parts (R182). -/
def servedAtOnce (dest src : Byte) (parts : Nat) (s : State) : Prop :=
  addressedToPart dest src s ∧ s.ring.intake = [] ∧ s.ring.reserved = 0 ∧ s.ring.answers.length + parts ≤ answerCapacity

/-- An answer of one part (R182). -/
def oneAnswer (src code : Byte) (status : Status) (data : List Byte) : Reply :=
  .answer (station src) code status 0 true data

/-- The command at the front of the queue is POWER_ON_RESET. -/
def atPowerOnReset (s : State) : Prop := ∃ k rest, s.pending = .powerOnReset k :: rest

/-- Every head's booking list is empty. -/
def noBookings (s : State) : Prop := ∀ h : Fin 4, s.heads[h].bookings = []

end Sys2Proof.Machine
end

