-- ==== Sys2Proof/WellFormed.lean ====
section
/-! DEFINITION. Which commands are well formed: those that name something the ring input or a pin can bring. The meaning of a
command does not rest on these checks: it treats a term that fails one as the frame its bytes are. -/

namespace Sys2Proof

/-- The greatest number of argument bytes of an ask (R190). -/
def maxArgs : Nat := 55

/-- A frame's payload fits a good frame (R175). -/
def frameFits (f : Frame) : Bool := decide (f.payload.length ≤ maxPayload)

/-- The check on each command. A frame row's length must fit (R175, R190, R191); a bad frame must be bad; an unknown ask must
name no ask; an unknown kind must be one that R177 discards; a PROTECT set holds at most 8 bytes (R191). -/
def Instr.wellFormed : Instr → Bool
  | .ask _ _ _ args => decide (args.length ≤ maxArgs)
  | .badFrame bytes => (parseFrame bytes).isNone
  | .forwardedFrame f => frameFits f
  | .ownFrameReturn f => frameFits f
  | .unknownKind f => frameFits f && (messageOf f.kind f.payload).isNone
  | .echo _ _ args => decide (args.length ≤ maxArgs)
  | .mode _ _ _ entries => decide (1 + 2 * entries.length ≤ maxArgs)
  | .tableRow _ _ row => decide (row.length ≤ maxArgs)
  | .protect _ _ tables => decide (tables.length ≤ 8)
  | .unknownAsk _ _ code args => !(askCodes.contains code) && decide (args.length ≤ maxArgs)
  | .powerOnReset _ => true
  | .tick .. => true
  | .leadEdge .. => true
  | .trailEdge .. => true
  | .line .. => true
  | .arrive .. => true
  | .swept .. => true
  | .headfault .. => true
  | .purgedone .. => true
  | .identify .. => true
  | .linkStatus .. => true
  | .laneReset .. => true
  | .tableOpen .. => true
  | .tableCommit .. => true
  | .tableAbort .. => true
  | .tableRead .. => true
  | .tallyFreeze .. => true
  | .tallyRead .. => true
  | .clockSet .. => true
  | .clockRead .. => true
  | .flagsRead .. => true
  | .flagsClear .. => true
  | .maskSet .. => true
  | .headControlEnable .. => true
  | .headControlDisable .. => true
  | .headControlPurge .. => true
  | .headControlAbortPurge .. => true
  | .headControlStatus .. => true
  | .stackerSweep .. => true
  | .trackRead .. => true
  | .evaluationCompletion => true
  | .sendingCompletion => true
  | .restartTimerExpiry _ => true
  | .faultWindowExpiry _ => true
  | .purgeTimeout _ => true
  | .secondEvent => true
  | .resetRelease => true

end Sys2Proof
end

