-- ==== Sys2Proof/Certificates/Slice0/Obligations.lean ====
section
/-! DEFINITION. The statements for the provers. A statement about a command of a frame speaks of a frame that the part takes
(`addressedToPart`); Obligations.FramesSorted says what becomes of every other frame. -/

section Statements

open Sys2Proof Sys2Proof.Machine

/-! ## The machine -/

/-- A step takes the command at the front of the queue and runs it on the rest; every step ends in a next state. -/
def Obligations.StepRunsFrontCommand : Prop :=
  (∀ (c : Instr) (rest : List Instr) (s : State), s.pending = c :: rest → step s = exec c (s.withPending rest))
    ∧ ∀ s : State, ∃ t, step s = .next t

/-- The model's choice (notes/assumptions/4.md): with no command waiting a step is one TBASE period. None counts while RSTn is
asserted; otherwise both divisions of TBASE count. The period that ends the first is a millisecond event (R13) and the one that
ends the second a second event (R116); in a period that ends both the millisecond event comes first (notes/assumptions/16.md). -/
def Obligations.IdleStepIsOnePeriod : Prop :=
  ∀ s : State, s.pending = [] →
    (s.time.rstnAsserted = true → step s = .next s)
    ∧ (s.time.rstnAsserted = false → ∀ counted ended : Clock,
      counted = { s.clock with phase := s.clock.phase + 1 } → ended = { advanceSecond s.clock with phase := 0 } →
      (s.time.msPhase + 1 < 1000 → ∀ u, u = { s with time := { s.time with msPhase := s.time.msPhase + 1 } } →
        (s.clock.phase + 1 < 1000000 → step s = .next { u with clock := counted })
        ∧ (s.clock.phase + 1 = 1000000 → step s = .next { u with clock := ended }))
      ∧ (s.time.msPhase + 1 = 1000 → ∀ u v, u = { s with time := { s.time with msPhase := 0 } } → v = millisecondEvent u →
        changesOnly [.heads, .cond, .ring] u v
        ∧ (s.clock.phase + 1 < 1000000 → step s = .next { v with clock := counted })
        ∧ (s.clock.phase + 1 = 1000000 → step s = .next { v with clock := ended })))

/-- A timer of n milliseconds expires on the n-th millisecond event after its start (R13): an event that is not the last
takes one from what is left, and the last one has the expiry's effect (R106, R108). The fault window that opens is GEOMETRY's, of 0 ms
before GEOMETRY is committed, and 0 ms opens none. Flags and ring port change by HEADFAULT and HEADLATCH of each purge that ends. The order of the timers of one head within
an event is the model's choice (notes/assumptions/16.md). -/
def Obligations.TimersCountMilliseconds : Prop :=
  ∀ (s : State) (h : Fin 4) (t : Timer), headInvariant s.heads[h] →
    (s.heads[h].restart = some t → 1 < t.left →
      (millisecondEvent s).heads[h] = { s.heads[h] with restart := some ⟨t.duration, t.left - 1⟩ })
    ∧ (s.heads[h].restart = some t → t.left ≤ 1 →
      (millisecondEvent s).heads[h]
        = { s.heads[h] with restart := none, state := .ready, faultWindow := openWindow s })
    ∧ (s.heads[h].purge = some t → 1 < t.left →
      (millisecondEvent s).heads[h].state = .purging
        ∧ (millisecondEvent s).heads[h].purge = some ⟨t.duration, t.left - 1⟩)
    ∧ (s.heads[h].purge = some t → t.left ≤ 1 →
      (millisecondEvent s).heads[h]
          = { s.heads[h] with
              purge := none, abort := false, lastPurge := .timeout, state := .latched, faultWindow := none }
        ∧ flagSet (millisecondEvent s) .headfault = true ∧ flagSet (millisecondEvent s) .headlatch = true)
    ∧ (s.heads[h].faultWindow = some t → 1 < t.left → (∀ p, s.heads[h].purge = some p → 1 < p.left) →
      (millisecondEvent s).heads[h].faultWindow = some ⟨t.duration, t.left - 1⟩)
    ∧ (s.heads[h].faultWindow = some t → t.left ≤ 1 → (millisecondEvent s).heads[h].faultWindow = none)
    ∧ (∀ d, d = (if isCommitted s.store .geometry then (geometryOf s.store.tables).faultWindow else 0) →
      openWindow s = if d = 0 then none else some ⟨d, d⟩)
    ∧ ((∀ j : Fin 4, headInvariant s.heads[j]) → ∀ w,
      w = ((List.finRange 4).filter fun j => s.heads[j].purge.any fun p => p.left ≤ 1).foldl
        (fun w _ => setFlag .headlatch (setFlag .headfault w)) s →
      (millisecondEvent s).cond = w.cond ∧ (millisecondEvent s).ring = w.ring)

/-- A power-on reset puts every block at its power-on values and reads the straps (R1, R11, R15, R40, R58, R75, R95, R116, R127,
R146, R157, R176, R178, R186). The release of RSTn starts the two divisions of TBASE from 0 (R13, R116). -/
def Obligations.PowerOnReset : Prop :=
  (∀ (k : Station) (s : State), ∃ t, exec (.powerOnReset k) s = .next t
    ∧ t.position = ⟨0, none, none⟩
    ∧ t.track = ⟨[], .stopped, 0, none, false, 0⟩
    ∧ (∀ i : Fin 24, t.scan.backgroundF[i] = 0 ∧ t.scan.backgroundR[i] = 0)
    ∧ t.scan.context = none ∧ t.scan.storeF = [] ∧ t.scan.storeR = []
    ∧ t.eval = ⟨false, none, []⟩
    ∧ t.routing = ⟨[], .straight⟩
    ∧ (∀ h : Fin 4, t.heads[h] = ⟨.disabled, [], none, none, none, false, .none⟩)
    ∧ t.clock = ⟨0, 1, 1, 0, 0, 0, 1, false, 0⟩
    ∧ (∀ n : Fin 8, t.stackers[n] = ⟨0, 0, .normal⟩)
    ∧ (∀ i : Fin 64, t.tally.live[i] = 0 ∧ t.tally.liveMarks[i] = false ∧ t.tally.snapshot[i] = 0
        ∧ t.tally.snapshotMarks[i] = false)
    ∧ t.tally.number = 0 ∧ t.tally.cursor = 0
    ∧ (∀ tab i, tableRow t.store.tables tab i = 0) ∧ (∀ tab, isCommitted t.store tab = false)
    ∧ t.store.protectedSet = 0 ∧ t.store.chanceUsed = false ∧ t.store.load = none
    ∧ t.store.cursorTable = .signature ∧ t.store.cursorRow = 0
    ∧ (∀ f, flagSet t f = decide (f = .clockinvalid)) ∧ (∀ f, flagMasked t f = true)
    ∧ t.ring = ⟨k, [], [], [], [], [], none, .answer, ⟨0, 0, 0, 0, 0, 0⟩, 0⟩
    ∧ t.time = ⟨true, 0⟩
    ∧ t.pending = s.pending)
    ∧ (∀ s : State, s.time.rstnAsserted = true →
    exec .resetRelease s = .next { s with time := ⟨false, 0⟩, clock := { s.clock with phase := 0 } })

/-- State.reset is the power-on state with RSTn released (the model's choice, notes/assumptions/2.md) and meets every invariant. -/
def Obligations.ResetMeetsInvariant : Prop :=
  State.reset = { State.powerOn State.reset.ring.own with time := ⟨false, 0⟩ } ∧ Invariant State.reset

/-- The model's choice (notes/assumptions/5.md): the end of something that is not in progress changes nothing. -/
def Obligations.NothingInProgress : Prop :=
  ∀ s : State,
    (s.ring.sending = none → exec .sendingCompletion s = .next s)
    ∧ (s.eval.busy = false → exec .evaluationCompletion s = .next s)
    ∧ (s.time.rstnAsserted = false → exec .resetRelease s = .next s)
    ∧ ∀ h : Fin 4,
      (s.heads[h].restart = none → exec (.restartTimerExpiry h) s = .next s)
      ∧ (s.heads[h].faultWindow = none → exec (.faultWindowExpiry h) s = .next s)
      ∧ (s.heads[h].state ≠ .purging → exec (.purgeTimeout h) s = .next s)

/-! ## Frames -/

/-- Frames and bytes agree in both directions (R175, R189): a frame is its header, its payload and the check over both, the bytes of a
frame whose payload fits are read as that frame, and bytes that are read as a frame are its bytes. -/
def Obligations.FrameBytesRoundTrip : Prop :=
  maxPayload = 56
    ∧ (∀ (f : Frame) (body : List Byte), body = [f.dest, f.src, f.kind, BitVec.ofNat 8 f.payload.length] ++ f.payload →
      frameBytes f = body ++ checkBytes (crc body))
    ∧ (∀ f : Frame, f.payload.length ≤ maxPayload → parseFrame (frameBytes f) = some f)
    ∧ (∀ (bs : List Byte) (f : Frame), parseFrame bs = some f → frameBytes f = bs ∧ f.payload.length ≤ maxPayload)

/-- Messages and payloads agree in both directions (R177, R190): a kind and a payload say a message exactly when they are the
message's own. The frames that the part takes and those that it sends carry the payloads of R190, numbers of several bytes least significant byte first
(R189). The bits that R189 and R190 leave open are 0 by the model's choice (notes/assumptions/34.md, notes/assumptions/35.md). -/
def Obligations.MessageRoundTrip : Prop :=
  (∀ (kind : Byte) (payload : List Byte) (m : Message),
    messageOf kind payload = some m ↔ kind = messageKind m ∧ payload = messagePayload m)
    ∧ ∀ low : Nat → Nat → List Byte, (∀ n w, low n w = (List.range n).map fun i => BitVec.ofNat 8 (w / 256 ^ i)) →
    ((∀ p, messageKind (.tick p) = 0x01 ∧ messagePayload (.tick p) = low 3 p.toNat
        ∧ messageKind (.leadEdge p) = 0x02 ∧ messagePayload (.leadEdge p) = 0 :: low 3 p.toNat
        ∧ messageKind (.trailEdge p) = 0x02 ∧ messagePayload (.trailEdge p) = 1 :: low 3 p.toNat)
      ∧ (∀ h p samples, messageKind (.line h p samples) = 0x03
        ∧ messagePayload (.line h p samples)
          = (if h = .f then 0 else 1) :: low 3 p.toNat ++ samples.toList.flatMap fun w => low 2 w.toNat)
      ∧ (∀ n p, messageKind (.arrive n p) = 0x05 ∧ messagePayload (.arrive n p) = [1, n] ++ low 3 p.toNat
        ∧ messageKind (.swept n) = 0x05 ∧ messagePayload (.swept n) = [2, n])
      ∧ (∀ h t, messageKind (.headfault h t) = 0x05 ∧ messagePayload (.headfault h none) = [3, h]
        ∧ ∀ q, messagePayload (.headfault h (some q)) = [3, h] ++ low 2 q.toNat)
      ∧ (∀ h o, messageKind (.purgedone h o) = 0x05
        ∧ messagePayload (.purgedone h o) = [4, h, if o = .complete then 0 else 1])
      ∧ ∀ code args, messageKind (.ask code args) = 0x06 ∧ messagePayload (.ask code args) = code :: args)
    ∧ (∀ (own : Station) (o : OrderFrame) (f : Frame), f = orderFrame own o →
      f.dest.toNat = o.dest.toNat ∧ f.src.toNat = own.toNat ∧ f.kind = 0x04
      ∧ (∀ x, o.order = .gate .straight x → f.payload = [1, 0] ++ low 3 x.toNat)
      ∧ (∀ x, o.order = .gate .turn x → f.payload = [1, 1] ++ low 3 x.toNat)
      ∧ (∀ h tag x n pat style day month year hour office lane,
        o.order = .print h tag x n pat style day month year hour office lane →
        f.payload = [2, BitVec.ofNat 8 h.val] ++ low 2 tag.toNat ++ low 3 x.toNat ++ low 2 n
          ++ [BitVec.ofNat 8 (pat.val + 16 * style)] ++ low 1 day ++ low 1 month ++ low 1 year ++ low 1 hour ++ low 3 office
          ++ low 1 lane)
      ∧ (∀ n tag x y, o.order = .stack n tag x y →
        f.payload = [3, BitVec.ofNat 8 n.val] ++ low 2 tag.toNat ++ low 3 x.toNat ++ low 3 y.toNat)
      ∧ (∀ h, o.order = .purge h → f.payload = [4, BitVec.ofNat 8 h.val])
      ∧ (∀ h, o.order = .abort h → f.payload = [5, BitVec.ofNat 8 h.val])
      ∧ (∀ n steps, o.order = .lamp n none steps → f.payload = [6, BitVec.ofNat 8 n.val, 0xFF, 0, 0])
      ∧ (∀ n p steps, o.order = .lamp n (some p) steps → f.payload = [6, BitVec.ofNat 8 n.val] ++ low 1 p ++ low 2 steps))
    ∧ (∀ (own dest : Station) (f : Frame),
      (∀ code status part last data, f = replyFrame own (.answer dest code status part last data) →
        f.dest.toNat = dest.toNat ∧ f.src.toNat = own.toNat ∧ f.kind = 0x07
        ∧ ∃ b c : Byte, f.payload = code :: b :: c :: data
          ∧ ([.ok, .busy, .mode, .range, .protected_, .sequence, .check, .forbidden, .unknown] : List Status)[b.toNat]?
            = some status
          ∧ (part < 128 → c.toNat = part + if last then 128 else 0))
      ∧ (∀ flag, f = replyFrame own (.alert dest flag) →
        f.dest.toNat = dest.toNat ∧ f.src.toNat = own.toNat ∧ f.kind = 0x08
        ∧ ∃ b : Byte, f.payload = [1, b]
          ∧ ([.late, .lost, .stray, .forced, .noprint, .printfail, .headfault, .headlatch, .stackfull, .residuefull, .trackfull,
              .edgefault, .scangap, .clockinvalid, .forbidden, .loaderr, .tallywrap, .linkerr, .fwddrop, .noticedrop] :
                List ConditionFlag)[b.toNat]? = some flag)
      ∧ (∀ cause, f = replyFrame own (.halt dest cause) →
        f.dest.toNat = dest.toNat ∧ f.src.toNat = own.toNat ∧ f.kind = 0x08
        ∧ f.payload = (match cause with
          | .trackfull => [2, 1]
          | .residuefull n => [2, 2, BitVec.ofNat 8 n.val])))

/-- A frame is bad in the three cases of R175, or when it is too short to hold a header. A bad frame is discarded; the bad-check count
rises, saturating at 65,535, and LINKERR is set. The check is the CRC of R175: polynomial x^16 + x^12 + x^5 + 1, the register starting
at FFFFh, each byte most significant bit first, not inverted, and carried most significant byte first. -/
def Obligations.BadFrames : Prop :=
  (∀ bs : List Byte,
    parseFrame bs = none ↔
      bs.length < 4 ∨ 56 < (bs.getD 3 0).toNat ∨ bs.length ≠ 4 + (bs.getD 3 0).toNat + 2
        ∨ bs.drop (4 + (bs.getD 3 0).toNat) ≠ checkBytes (crc (bs.take (4 + (bs.getD 3 0).toNat))))
    ∧ (∀ shift : BitVec 16 → Bool → BitVec 16,
      (∀ c bit, shift c bit = if c.getLsbD 15 = bit then c <<< 1 else (c <<< 1) ^^^ BitVec.ofNat 16 (2 ^ 12 + 2 ^ 5 + 1)) →
      ∀ bs : List Byte, crc bs
        = bs.foldl (fun c b => ([7, 6, 5, 4, 3, 2, 1, 0] : List Nat).foldl (fun c i => shift c (b.getLsbD i)) c) 0xFFFF)
    ∧ (∀ c : BitVec 16, checkBytes c = [BitVec.ofNat 8 (c.toNat / 256), BitVec.ofNat 8 (c.toNat % 256)])
    ∧ ∀ (bs : List Byte) (s : State), parseFrame bs = none →
      ∃ t, exec (.badFrame bs) s = .next t
        ∧ t = setFlag .linkerr { s with ring := { s.ring with
            counters := { s.ring.counters with badCheck := satInc16 s.ring.counters.badCheck } } }
        ∧ (satInc16 s.ring.counters.badCheck).toNat = min (s.ring.counters.badCheck.toNat + 1) 65535
        ∧ flagSet t .linkerr = true

/-- Every command that is a frame acts as that frame does at the ring input: what its bytes say decides (R175 to R177). This is the
model's reading of the table's rows: an ask row is the arrival of an ASK frame (DEDUCED, notes/assumptions/6.md), a frame row
is sorted by the header it carries, and a BAD_FRAME term with good bytes is that frame (DEDUCED, notes/assumptions/7.md). -/
def Obligations.CommandsAreFrames : Prop :=
  ∀ (c : Instr) (f : Frame) (s : State), c.frameOf = some f → exec c s = .next (receive f s)

/-- A good frame is sorted by its source and destination, in the order of R176's rows. A broadcast frame is forwarded and then
taken (notes/assumptions/11.md). -/
def Obligations.FramesSorted : Prop :=
  ∀ (f : Frame) (s : State), f.payload.length ≤ maxPayload →
    (∀ b : Byte, (station b).toNat = b.toNat % 32)
    ∧ (station f.src = s.ring.own → receive f s = s)
    ∧ (station f.src ≠ s.ring.own → station f.dest = s.ring.own → receive f s = takeFrame f s)
    ∧ (station f.src ≠ s.ring.own → station f.dest = 31 → s.ring.own ≠ 31 →
        receive f s = takeFrame f (forwardFrame f s))
    ∧ (station f.src ≠ s.ring.own → station f.dest ≠ s.ring.own → station f.dest ≠ 31 → receive f s = forwardFrame f s)

/-- A frame of the part's own is removed without a count. A frame for another station joins the forward queue unchanged behind
a SENDING output, is sent at once by an IDLE output with nothing to send, and is dropped, counted and flagged when the queue
holds 8 frames (R176, R179, R181). -/
def Obligations.ForwardedAndOwnFrames : Prop :=
  ∀ (f : Frame) (s : State), f.payload.length ≤ maxPayload →
    (station f.src = s.ring.own → exec (.ownFrameReturn f) s = .next s)
    ∧ (station f.src ≠ s.ring.own → station f.dest ≠ s.ring.own → station f.dest ≠ 31 →
      (s.ring.forward.length < 8 → s.ring.sending.isSome = true →
        exec (.forwardedFrame f) s = .next { s with ring := { s.ring with forward := s.ring.forward ++ [f] } })
      ∧ (s.ring.sending = none → ringInvariant s.ring →
        exec (.forwardedFrame f) s = .next { s with ring := { s.ring with sending := some f, turn := .answer } })
      ∧ (8 ≤ s.ring.forward.length →
        exec (.forwardedFrame f) s = .next (setFlag .fwddrop { s with ring := { s.ring with
          counters := { s.ring.counters with forwardDrop := satInc16 s.ring.counters.forwardDrop } } })))

/-- A taken frame that names nothing the part takes is discarded and counted, without a flag; a broadcast one is still
forwarded (R177), and first (notes/assumptions/11.md). -/
def Obligations.UnknownKindDiscarded : Prop :=
  ∀ (f : Frame) (s : State), f.payload.length ≤ maxPayload → station f.src ≠ s.ring.own →
    messageOf f.kind f.payload = none →
    (station f.dest = s.ring.own →
      exec (.unknownKind f) s = .next { s with ring := { s.ring with
        counters := { s.ring.counters with unknownKind := satInc16 s.ring.counters.unknownKind } } })
    ∧ (station f.dest = 31 → s.ring.own ≠ 31 →
      exec (.unknownKind f) s = .next (countUnknownKind (forwardFrame f s)))

/-! ## The output -/

/-- A frame that joins a queue behind a SENDING output waits at its tail; one that joins while the output is IDLE and nothing
waits is granted at once, at its joining (R179, notes/assumptions/9.md). A LAMP, PURGE or ABORT order joins the order queue when that has a free place; otherwise it takes
its waiting place, and one that finds its place occupied replaces the order there and keeps the place's age (R180). -/
def Obligations.JoiningAQueue : Prop :=
  (∀ (o : OrderFrame) (a : Reply) (f : Frame) (s : State),
    (s.ring.sending.isSome = true →
      joinOrder o s = { s with ring := { s.ring with orders := s.ring.orders ++ [o] } }
      ∧ joinAnswer a s = { s with ring := { s.ring with answers := s.ring.answers ++ [a] } }
      ∧ joinForward f s = { s with ring := { s.ring with forward := s.ring.forward ++ [f] } })
    ∧ (s.ring.sending = none → ringInvariant s.ring →
      joinOrder o s = { s with ring := { s.ring with sending := some (orderFrame s.ring.own o) } }
      ∧ joinAnswer a s
        = { s with ring := { s.ring with sending := some (replyFrame s.ring.own a), turn := .forward } }
      ∧ joinForward f s = { s with ring := { s.ring with sending := some f, turn := .answer } }))
    ∧ (∀ (p : WaitPlace) (o : OrderFrame) (s : State),
    (s.ring.orders.length < 16 → issueOrder p o s = joinOrder o s)
    ∧ (16 ≤ s.ring.orders.length → (∀ w ∈ s.ring.waiting, w.place ≠ p) →
      issueOrder p o s = { s with ring := { s.ring with waiting := s.ring.waiting ++ [⟨p, o⟩] } })
    ∧ (∀ before old after, 16 ≤ s.ring.orders.length → s.ring.waiting = before ++ ⟨p, old⟩ :: after →
      (∀ w ∈ before, w.place ≠ p) →
      issueOrder p o s = { s with ring := { s.ring with waiting := before ++ ⟨p, o⟩ :: after } }))

/-- The completion of a sending grants the next frame: the order queue first, its freed place going to the longest waiting
order; then the queue that the turn indicator favours; then the one that holds a frame. With nothing to send the output is
IDLE. A granted answer lets waiting asks be served (R179, R180, R182). -/
def Obligations.SendingCompletionGrants : Prop :=
  ∀ s : State, s.ring.sending.isSome = true →
    (∀ o os, s.ring.orders = o :: os → s.ring.waiting = [] →
      exec .sendingCompletion s
        = .next { s with ring := { s.ring with orders := os, sending := some (orderFrame s.ring.own o) } })
    ∧ (∀ o os w ws, s.ring.orders = o :: os → s.ring.waiting = w :: ws →
      exec .sendingCompletion s
        = .next { s with ring := { s.ring with
            orders := os ++ [w.order], waiting := ws, sending := some (orderFrame s.ring.own o) } })
    ∧ (∀ f fs, s.ring.orders = [] → s.ring.forward = f :: fs → s.ring.answers = [] ∨ s.ring.turn = .forward →
      exec .sendingCompletion s
        = .next { s with ring := { s.ring with forward := fs, sending := some f, turn := .answer } })
    ∧ (∀ a rest, s.ring.orders = [] → s.ring.answers = a :: rest → s.ring.forward = [] ∨ s.ring.turn = .answer →
      exec .sendingCompletion s
        = .next (serveIntake { s with ring := { s.ring with
            answers := rest, sending := some (replyFrame s.ring.own a), turn := .forward } }))
    ∧ (s.ring.orders = [] → s.ring.forward = [] → s.ring.answers = [] →
      exec .sendingCompletion s = .next { s with ring := { s.ring with sending := none } })

/-- A flag that is set stays set and sends nothing. A flag that goes from clear to set while masked, and NOTICEDROP always, sends
nothing. Any other sends one ALERT with its number to the controller station, or, where the answer queue has no free place,
counts a notice drop and sets NOTICEDROP (R186, R188). No other flag and no mask changes. A HALT is sent or dropped in the same
way, whatever the mask holds (R188). That the places of an answer being formed are not free, so that a notice which finds only
these is dropped, is the model's choice (notes/assumptions/10.md). -/
def Obligations.FlagRaising : Prop :=
  ∀ (f : ConditionFlag) (s : State),
    freeAnswerPlaces s = 6 - (s.ring.answers.length + s.ring.reserved)
    ∧ (flagSet s f = true → setFlag f s = s)
    ∧ (flagSet s f = false → flagMasked s f = true ∨ f = .noticedrop → setFlag f s = markFlag f s)
    ∧ (flagSet s f = false → flagMasked s f = false → f ≠ .noticedrop → 0 < freeAnswerPlaces s →
      setFlag f s = joinAnswer (.alert (controllerStation s.store.tables) f) (markFlag f s))
    ∧ (flagSet s f = false → flagMasked s f = false → f ≠ .noticedrop → freeAnswerPlaces s = 0 →
      setFlag f s = markFlag .noticedrop { markFlag f s with ring := { s.ring with
        counters := { s.ring.counters with noticeDrop := satInc16 s.ring.counters.noticeDrop } } })
    ∧ (∀ g, flagSet (markFlag f s) g = (flagSet s g || decide (g = f)))
    ∧ (markFlag f s).cond.mask = s.cond.mask
    ∧ changesOnly [.cond] s (markFlag f s)
    ∧ ∀ cause : HaltCause,
      (0 < freeAnswerPlaces s → sendHalt cause s = joinAnswer (.halt (controllerStation s.store.tables) cause) s)
      ∧ (freeAnswerPlaces s = 0 →
        sendHalt cause s = markFlag .noticedrop { s with ring := { s.ring with
          counters := { s.ring.counters with noticeDrop := satInc16 s.ring.counters.noticeDrop } } })

/-! ## Asks: intake and answers -/

/-- An ask joins the intake while that holds fewer than 4, waits behind the asks there, is served at once when it finds the
intake empty and room for every part of its answer, and is dropped and counted when the intake holds 4. Waiting asks are served
from the head, one after another, as long as the answer queue has room for every part of the next answer (R182), beside the
places kept for an answer being formed (the model's choice, notes/assumptions/10.md). -/
def Obligations.AskIntake : Prop :=
  (∀ (dest src code : Byte) (args : List Byte) (s : State), addressedToPart dest src s → args.length ≤ maxArgs →
    (4 ≤ s.ring.intake.length →
      exec (.ask dest src code args) s = .next { s with ring := { s.ring with
        counters := { s.ring.counters with askDrop := satInc16 s.ring.counters.askDrop } } })
    ∧ (s.ring.intake ≠ [] → s.ring.intake.length < 4 →
      exec (.ask dest src code args) s
        = .next { s with ring := { s.ring with intake := s.ring.intake ++ [⟨station src, code, args⟩] } })
    ∧ (s.ring.intake = [] → partsNeeded ⟨station src, code, args⟩ s ≤ freeAnswerPlaces s →
      exec (.ask dest src code args) s = .next (serveAsk ⟨station src, code, args⟩ s))
    ∧ (s.ring.intake = [] → freeAnswerPlaces s < partsNeeded ⟨station src, code, args⟩ s →
      exec (.ask dest src code args) s
        = .next { s with ring := { s.ring with intake := [⟨station src, code, args⟩] } }))
    ∧ (∀ s : State,
    (∀ a : IntakeAsk, partsNeeded a s
      = if a.code = 0x05 ∧ a.args = [] then 1 else (answerParts (serve a.code a.args s).data).length)
    ∧ (s.ring.intake = [] → serveIntake s = s)
    ∧ (∀ a rest, s.ring.intake = a :: rest → ∀ u, u = { s with ring := { s.ring with intake := rest } } →
      (freeAnswerPlaces u < partsNeeded a u → serveIntake s = s)
      ∧ (partsNeeded a u ≤ freeAnswerPlaces u → serveIntake s = serveIntake (serveAsk a u))))

/-- Every answer of the part takes 1 to 3 parts. The parts together are the data; every part but the last holds 53 bytes and the
last at most 53. They join the answer queue in order, numbered from 0, the last one marked (R182, R191). -/
def Obligations.AnswersInParts : Prop :=
  ∀ (code : Byte) (args : List Byte) (s : State), args.length ≤ maxArgs →
    (answerParts (serve code args s).data).flatten = (serve code args s).data
    ∧ 1 ≤ (answerParts (serve code args s).data).length ∧ (answerParts (serve code args s).data).length ≤ 3
    ∧ (∀ p ∈ (answerParts (serve code args s).data).dropLast, p.length = 53)
    ∧ (∀ p ∈ answerParts (serve code args s).data, p.length ≤ 53)
    ∧ ∀ (dest : Station) (r : Served) (join : Nat → Bool → List Byte → State → State),
      (∀ n last d u, join n last d u = joinAnswer (.answer dest code r.status n last d) u) →
      (∀ a, answerParts r.data = [a] → joinWhole dest code r = join 0 true a r.state)
      ∧ (∀ a b, answerParts r.data = [a, b] → joinWhole dest code r = join 1 true b (join 0 false a r.state))
      ∧ ∀ a b c, answerParts r.data = [a, b, c] →
        joinWhole dest code r = join 2 true c (join 1 false b (join 0 false a r.state))

/-- An ask whose code names no ask is answered UNKNOWN with no data, and one with a known code whose arguments fit none of the ask's
lengths RANGE with no data; neither changes anything else (R182, R191). -/
def Obligations.RefusedAsks : Prop :=
  (∀ c : Byte, c ∈ askCodes ↔ 1 ≤ c.toNat ∧ c.toNat ≤ 0x15)
    ∧ (∀ (dest src code : Byte) (args : List Byte) (s : State), code ∉ askCodes → args.length ≤ maxArgs →
    servedAtOnce dest src 1 s →
    exec (.unknownAsk dest src code args) s = .next (joinAnswer (oneAnswer src code .unknown []) s))
    ∧ (∀ (dest src code : Byte) (args : List Byte) (s : State), args.length ≤ maxArgs → servedAtOnce dest src 1 s →
    (code ∈ ([0x01, 0x03, 0x05, 0x09, 0x0F, 0x10] : List Byte) ∧ args.length ≠ 0)
      ∨ (code = 0x04 ∧ args.length % 2 = 0)
      ∨ (code = 0x06 ∧ args.length ≠ 3)
      ∨ (code ∈ ([0x08, 0x13] : List Byte) ∧ args.length ≠ 2)
      ∨ (code = 0x0A ∧ args.length ≠ 1 ∧ args.length ≠ 3)
      ∨ (code = 0x0B ∧ 8 < args.length)
      ∨ (code ∈ ([0x0C, 0x14] : List Byte) ∧ args.length ≠ 1)
      ∨ (code = 0x0D ∧ args.length ≠ 1 ∧ args.length ≠ 2)
      ∨ (code = 0x0E ∧ args.length ≠ 7)
      ∨ (code ∈ ([0x11, 0x12] : List Byte) ∧ args.length ≠ 3)
      ∨ (code = 0x15 ∧ args.length ≠ 0 ∧ args.length ≠ 2) →
    exec (.ask dest src code args) s = .next (joinAnswer (oneAnswer src code .range []) s))

/-! ## Asks of the ring port and of the condition unit -/

/-- IDENTIFY answers the part code 0410h, the revision 1 and the own station; ECHO answers its bytes inverted, in two parts
beyond 53 bytes; neither changes anything else (R183). -/
def Obligations.IdentifyAndEcho : Prop :=
  ∀ (dest src : Byte) (args : List Byte) (s : State),
    (servedAtOnce dest src 1 s →
      exec (.identify dest src) s
        = .next (joinAnswer (oneAnswer src 0x01 .ok [0x10, 0x04, 0x01, s.ring.own.setWidth 8]) s))
    ∧ (servedAtOnce dest src 1 s → args.length ≤ 53 →
      exec (.echo dest src args) s = .next (joinAnswer (oneAnswer src 0x02 .ok (args.map fun b => ~~~b)) s))
    ∧ (servedAtOnce dest src 2 s → 53 < args.length → args.length ≤ 55 →
      exec (.echo dest src args) s
        = .next (joinAnswer (.answer (station src) 0x02 .ok 1 true ((args.drop 53).map fun b => ~~~b))
            (joinAnswer (.answer (station src) 0x02 .ok 0 false ((args.take 53).map fun b => ~~~b)) s)))

/-- LINK STATUS answers the six counters in order, low byte first, and then sets them to 0; no flag changes (R184). -/
def Obligations.LinkStatusReadsAndClears : Prop :=
  ∀ (dest src : Byte) (s : State), servedAtOnce dest src 1 s →
    exec (.linkStatus dest src) s
      = .next (joinAnswer
          (oneAnswer src 0x03 .ok
            (([s.ring.counters.badCheck, s.ring.counters.unknownKind, s.ring.counters.forwardDrop, s.ring.counters.askDrop,
                s.ring.counters.noticeDrop, s.ring.counters.strayReport] : List (BitVec 16)).flatMap
              fun (c : BitVec 16) => [c.setWidth 8, (c >>> 8).setWidth 8]))
          { s with ring := { s.ring with counters := ⟨0, 0, 0, 0, 0, 0⟩ } })

/-- FLAGS READ, FLAGS CLEAR and MASK SET are answered OK with the flags and the mask after the ask. A clear leaves CLOCKINVALID
set while the clock is INVALID and keeps the flags outside its set; a mask set replaces the mask (R187). -/
def Obligations.ConditionAsks : Prop :=
  ∀ (dest src : Byte) (set : BitVec 24) (s : State), servedAtOnce dest src 1 s →
    exec (.flagsRead dest src) s = .next (joinAnswer (oneAnswer src 0x10 .ok (flagsData s.cond)) s)
    ∧ (∃ flags : BitVec 20,
        exec (.flagsClear dest src set) s
          = .next (joinAnswer (oneAnswer src 0x11 .ok (flagsData { s.cond with flags := flags }))
              { s with cond := { s.cond with flags := flags } })
        ∧ ∀ f : ConditionFlag,
          flags.getLsbD (flagNumber f)
            = (flagSet s f && (!set.getLsbD (flagNumber f) || (decide (f = .clockinvalid) && !s.clock.valid))))
    ∧ (∃ mask : BitVec 20,
        exec (.maskSet dest src set) s
          = .next (joinAnswer (oneAnswer src 0x12 .ok (flagsData { s.cond with mask := mask }))
              { s with cond := { s.cond with mask := mask } })
        ∧ ∀ f : ConditionFlag, mask.getLsbD (flagNumber f) = set.getLsbD (flagNumber f))
    ∧ (∀ f : ConditionFlag, ([.late, .lost, .stray, .forced, .noprint, .printfail, .headfault, .headlatch, .stackfull,
        .residuefull, .trackfull, .edgefault, .scangap, .clockinvalid, .forbidden, .loaderr, .tallywrap, .linkerr, .fwddrop,
        .noticedrop] : List ConditionFlag)[flagNumber f]? = some f)
    ∧ (∀ c : ConditionUnit, (flagsData c).length = 6
        ∧ ∀ f : ConditionFlag,
          ((flagsData c).getD (flagNumber f / 8) 0).getLsbD (flagNumber f % 8) = c.flags.getLsbD (flagNumber f)
          ∧ ((flagsData c).getD (3 + flagNumber f / 8) 0).getLsbD (flagNumber f % 8) = c.mask.getLsbD (flagNumber f))

/-! ## The clock -/

/-- A second event carries the seconds into the minutes, hours, days with the day of week, months and years (R117 to R119). -/
def Obligations.SecondEventCarries : Prop :=
  ∀ s : State, clockInvariant s.clock →
    let c := s.clock
    let lastDay : Nat := [31, if c.year % 4 = 0 then 29 else 28, 31, 30, 31, 30, 31, 31, 30, 31, 30, 31].getD (c.month - 1) 0
    let carryMinute := c.second = 59
    let carryHour := carryMinute ∧ c.minute = 59
    let carryDay := carryHour ∧ c.hour = 23
    let carryMonth := carryDay ∧ c.day = lastDay
    let carryYear := carryMonth ∧ c.month = 12
    ∃ t, exec .secondEvent s = .next t ∧ changesOnly [.clock] s t
      ∧ t.clock.second = (if c.second = 59 then 0 else c.second + 1)
      ∧ t.clock.minute = (if carryMinute then (if c.minute = 59 then 0 else c.minute + 1) else c.minute)
      ∧ t.clock.hour = (if carryHour then (if c.hour = 23 then 0 else c.hour + 1) else c.hour)
      ∧ t.clock.day = (if carryDay then (if c.day = lastDay then 1 else c.day + 1) else c.day)
      ∧ t.clock.dayOfWeek = (if carryDay then (if c.dayOfWeek = 7 then 1 else c.dayOfWeek + 1) else c.dayOfWeek)
      ∧ t.clock.month = (if carryMonth then (if c.month = 12 then 1 else c.month + 1) else c.month)
      ∧ t.clock.year = (if carryYear then (if c.year = 99 then 0 else c.year + 1) else c.year)
      ∧ t.clock.valid = c.valid

/-- CLOCK SET whose seven fields pass their tests loads them, returns the second phase to 0 and makes the clock VALID; otherwise
nothing changes and the answer is RANGE with the order number of the first failing field (R121). CLOCK READ answers the fields,
the valid indicator, the cutover hour and the postmark that a commit would carry (R123, R124). -/
def Obligations.ClockAsks : Prop :=
  ∀ (dest src y m d h mi se w : Byte) (s : State), servedAtOnce dest src 1 s →
    let fails : List Bool := [decide (99 < y.toNat), decide (m.toNat = 0 ∨ 12 < m.toNat),
      decide (d.toNat = 0 ∨ monthLength y.toNat m.toNat < d.toNat), decide (23 < h.toNat), decide (59 < mi.toNat),
      decide (59 < se.toNat), decide (w.toNat = 0 ∨ 7 < w.toNat)]
    (true ∉ fails →
      exec (.clockSet dest src y m d h mi se w) s
        = .next (joinAnswer (oneAnswer src 0x0E .ok [0, y, m, d, h, mi, se, w, 1])
            { s with clock := ⟨y.toNat, m.toNat, d.toNat, h.toNat, mi.toNat, se.toNat, w.toNat, true, 0⟩ }))
    ∧ (true ∈ fails →
      exec (.clockSet dest src y m d h mi se w) s
        = .next (joinAnswer
            (oneAnswer src 0x0E .range
              (byteOf (fails.idxOf true + 1) :: clockFields s.clock ++ [indicator s.clock.valid])) s))
    ∧ (∀ year month, 1 ≤ month → month ≤ 12 → monthLength year month
      = [31, if year % 4 = 0 then 29 else 28, 31, 30, 31, 30, 31, 31, 30, 31, 30, 31].getD (month - 1) 0)
    ∧ (∀ date : Date, nextDay date
      = if date.day < monthLength date.year date.month then { date with day := date.day + 1 }
        else if date.month < 12 then ⟨date.year, date.month + 1, 1⟩
        else ⟨if date.year < 99 then date.year + 1 else 0, 1, 1⟩)
    ∧ clockFields s.clock = [s.clock.year, s.clock.month, s.clock.day, s.clock.hour, s.clock.minute, s.clock.second,
        s.clock.dayOfWeek].map (BitVec.ofNat 8)
    ∧ (∀ c p, c = cutoverHour s.store.tables →
      p = (if 0 < c ∧ c ≤ s.clock.hour then nextDay (dateOf s.clock) else dateOf s.clock) →
      exec (.clockRead dest src) s
        = .next (joinAnswer
            (oneAnswer src 0x0F .ok (clockFields s.clock ++ [indicator s.clock.valid, byteOf c, byteOf p.day,
              byteOf p.month, byteOf p.year, byteOf s.clock.hour])) s))

/-! ## Tallies -/

/-- A count adds 1 to one live counter. One that finds 4,294,967,295 there sets the counter to 0, sets its wrap mark and sets
TALLYWRAP. Nothing else of the tally unit changes (R149, R150). The counters have the numbers of section 9.2 (R146 to R148). -/
def Obligations.CountsAndWraps : Prop :=
  ([tallyEntered, tallyOfRetirement .delivered, tallyOfRetirement .lost, tallyOfRetirement .abandoned, tallyLate, tallyForced,
      tallyNoprint, tallyPrintfail, tallyPrinted, tallyStray, tallyUntracked, tallyFulldivert, tallyUnrouted]
    = (List.finRange 64).take 13)
    ∧ (∀ k, k < 16 → (tallyOfKind k).val = 13 + k) ∧ (∀ n : Fin 8, (tallyOfArrival n).val = 29 + n.val)
    ∧ (∀ k, 37 ≤ k → k ≤ 63 → (tallyOfRow k).val = k)
    ∧ ∀ (i : Fin 64) (s : State),
    (s.tally.live[i].toNat < 4294967295 →
      ∃ live, count i s = { s with tally := { s.tally with live := live } }
        ∧ live[i].toNat = s.tally.live[i].toNat + 1 ∧ ∀ j : Fin 64, j ≠ i → live[j] = s.tally.live[j])
    ∧ (s.tally.live[i].toNat = 4294967295 →
      ∃ live marks, count i s = setFlag .tallywrap { s with tally := { s.tally with live := live, liveMarks := marks } }
        ∧ live[i] = 0 ∧ marks[i] = true
        ∧ ∀ j : Fin 64, j ≠ i → live[j] = s.tally.live[j] ∧ marks[j] = s.tally.liveMarks[j])

/-- A TALLY FREEZE with option KEEP or CLEAR copies the live counters and marks into the snapshot, clears the live marks and, with
CLEAR, the counters, adds 1 to the snapshot number and returns the cursor to 0; another option is answered RANGE (R151). TALLY READ
from a start index, or from the cursor, of 1 to 12 counters that all exist answers each snapshot counter with its wrap mark and moves
the cursor behind them; any other is answered RANGE and moves nothing (R153). -/
def Obligations.TallyAsks : Prop :=
  (∀ (dest src option : Byte) (s : State), servedAtOnce dest src 1 s →
    (option = 0 ∨ option = 1 → ∃ u : TallyUnit,
      exec (.tallyFreeze dest src option) s
        = .next (joinAnswer (oneAnswer src 0x0C .ok (option :: natBytes 2 u.number.toNat)) { s with tally := u })
      ∧ (∀ i : Fin 64, u.snapshot[i] = s.tally.live[i] ∧ u.snapshotMarks[i] = s.tally.liveMarks[i]
          ∧ u.liveMarks[i] = false ∧ u.live[i] = (if option = 1 then 0 else s.tally.live[i]))
      ∧ u.number.toNat = (s.tally.number.toNat + 1) % 65536 ∧ u.cursor = 0)
    ∧ (option ≠ 0 → option ≠ 1 →
      exec (.tallyFreeze dest src option) s
        = .next (joinAnswer (oneAnswer src 0x0C .range (option :: natBytes 2 s.tally.number.toNat)) s)))
    ∧ (∀ (dest src k : Byte) (start : Option Byte) (s : State) (i : Nat),
    i = (match start with
      | some b => b.toNat
      | none => s.tally.cursor) →
    (1 ≤ k.toNat → k.toNat ≤ 12 → (start.isSome = true → i ≤ 63) → i + k.toNat ≤ 64 →
      ∀ data, data = natBytes 2 s.tally.number.toNat ++ [byteOf (i + k.toNat), byteOf i, k]
          ++ (List.range k.toNat).flatMap (fun j => natBytes 4 ((s.tally.snapshot[i + j]?.map BitVec.toNat).getD 0)
            ++ [indicator (s.tally.snapshotMarks[i + j]?.getD false)]) →
      servedAtOnce dest src (answerParts data).length s →
      exec (.tallyRead dest src k start) s
        = .next (joinWhole (station src) 0x0D ⟨{ s with tally := { s.tally with cursor := i + k.toNat } }, .ok, data⟩))
    ∧ (k.toNat = 0 ∨ 12 < k.toNat ∨ (start.isSome = true ∧ 63 < i) ∨ 64 < i + k.toNat → servedAtOnce dest src 1 s →
      exec (.tallyRead dest src k start) s
        = .next (joinAnswer
            (oneAnswer src 0x0D .range (natBytes 2 s.tally.number.toNat ++ [byteOf s.tally.cursor])) s)))

/-! ## The table store -/

/-- PROTECT writes the protected set once between power-on resets: an identifier above 7 is answered RANGE, a used chance
PROTECTED, and neither changes anything (R167). -/
def Obligations.ProtectOnce : Prop :=
  ∀ (dest src : Byte) (ids : List Byte) (s : State), ids.length ≤ 8 → servedAtOnce dest src 1 s →
    ((∃ b ∈ ids, 7 < b.toNat) →
      exec (.protect dest src ids) s
        = .next (joinAnswer (oneAnswer src 0x0B .range [s.store.protectedSet, indicator s.store.chanceUsed]) s))
    ∧ ((∀ b ∈ ids, b.toNat ≤ 7) → s.store.chanceUsed = true →
      exec (.protect dest src ids) s
        = .next (joinAnswer (oneAnswer src 0x0B .protected_ [s.store.protectedSet, 1]) s))
    ∧ ((∀ b ∈ ids, b.toNat ≤ 7) → s.store.chanceUsed = false → ∃ set : BitVec 8,
      exec (.protect dest src ids) s
        = .next (joinAnswer (oneAnswer src 0x0B .ok [set, 1])
            { s with store := { s.store with protectedSet := set, chanceUsed := true } })
      ∧ ∀ n : Nat, n < 8 → (set.getLsbD n = true ↔ ∃ b ∈ ids, b.toNat = n))

/-- The tables have their identifiers and row counts of R158. TABLE OPEN opens a load of a table that is not protected and whose rows it names, discarding an open load without LOADERR; a
refused one changes nothing (R159). TABLE ABORT discards an open load (R164). TABLE ROW stages a row of 16 bytes at the tail and adds
its bytes to the staged sum; without a load it is answered SEQUENCE, with another length RANGE, and neither changes anything; beyond
the declared count the load is aborted with LOADERR (R160, R164), its notice before the answer (notes/assumptions/10.md). -/
def Obligations.LoadsBuilt : Prop :=
  (∀ tables : List TableId, tables = [.signature, .routing, .pattern, .stacker, .geometry, .scanset, .office, .lamp] →
    (∀ b : Byte, tableOf b = tables[b.toNat]?)
    ∧ ∀ (t : TableId) (n : Nat), n = tables.idxOf t → (tableNumber t).val = n ∧ tableCode t = BitVec.ofNat 8 n
      ∧ rowCount t = [16, 48, 8, 8, 4, 2, 2, 1].getD n 0 ∧ ∀ st, isProtected st t = st.protectedSet.getLsbD n)
    ∧ loadData none = [0, 0, 0, 0, 0, 0, 0]
    ∧ (∀ l : Load, loadData (some l) = [1, tableCode l.table, BitVec.ofNat 8 l.first, BitVec.ofNat 8 l.declared,
      BitVec.ofNat 8 l.rows.length, BitVec.ofNat 8 l.sum.toNat, BitVec.ofNat 8 (l.sum.toNat / 256)])
    ∧ (∀ (dest src table first n : Byte) (s : State), servedAtOnce dest src 1 s →
    ∀ discarded : List Byte, discarded = (match s.store.load with
      | none => [0, 0xFF]
      | some l => [1, tableCode l.table]) →
    (tableOf table = none →
      exec (.tableOpen dest src table first n) s
        = .next (joinAnswer (oneAnswer src 0x06 .range ([0, 0xFF] ++ loadData s.store.load)) s))
    ∧ (∀ t, tableOf table = some t → isProtected s.store t = true →
      exec (.tableOpen dest src table first n) s
        = .next (joinAnswer (oneAnswer src 0x06 .protected_ ([0, 0xFF] ++ loadData s.store.load)) s))
    ∧ (∀ t, tableOf table = some t → isProtected s.store t = false → rowCount t < first.toNat + n.toNat + 1 →
      exec (.tableOpen dest src table first n) s
        = .next (joinAnswer (oneAnswer src 0x06 .range ([0, 0xFF] ++ loadData s.store.load)) s))
    ∧ (∀ t, tableOf table = some t → isProtected s.store t = false → first.toNat + n.toNat + 1 ≤ rowCount t →
      exec (.tableOpen dest src table first n) s
        = .next (joinAnswer (oneAnswer src 0x06 .ok (discarded ++ [1, table, first, byteOf (n.toNat + 1), 0, 0, 0]))
            { s with store := { s.store with load := some ⟨t, first.toNat, n.toNat + 1, [], 0⟩ } }))
    ∧ exec (.tableAbort dest src) s
      = .next (joinAnswer (oneAnswer src 0x09 .ok (discarded ++ [0, 0, 0, 0, 0, 0, 0]))
          { s with store := { s.store with load := none } }))
    ∧ (∀ (dest src : Byte) (row : List Byte) (s : State), row.length ≤ maxArgs → servedAtOnce dest src 1 s →
    (s.store.load = none →
      exec (.tableRow dest src row) s = .next (joinAnswer (oneAnswer src 0x07 .sequence (loadData none)) s))
    ∧ (∀ l, s.store.load = some l → row.length ≠ 16 →
      exec (.tableRow dest src row) s = .next (joinAnswer (oneAnswer src 0x07 .range (loadData (some l))) s))
    ∧ (∀ l, s.store.load = some l → row.length = 16 → l.rows.length = l.declared →
      exec (.tableRow dest src row) s
        = .next (joinAnswer (oneAnswer src 0x07 .sequence (loadData none))
            (setReserved 0 (setFlag .loaderr (setReserved 1 { s with store := { s.store with load := none } })))))
    ∧ (∀ l, s.store.load = some l → row.length = 16 → l.rows.length ≠ l.declared → ∃ l' : Load,
      exec (.tableRow dest src row) s
        = .next (joinAnswer (oneAnswer src 0x07 .ok (loadData (some l')))
            { s with store := { s.store with load := some l' } })
      ∧ l' = { l with rows := l.rows ++ [rowOfBytes row], sum := l'.sum }
      ∧ l'.sum.toNat = (l.sum.toNat + (row.map BitVec.toNat).sum) % 65536
      ∧ rowBytes (rowOfBytes row) = row))

/-- TABLE COMMIT by its tests in order: no load, RUNNING or DRAINING, and then four that abort the load with LOADERR. A commit
that passes them puts the staged rows at their indexes, marks the table COMMITTED and ends the load; a table without effects of
its own changes nothing else (R11, R129, R138, R161 to R164). Notices join before the answer (notes/assumptions/10.md). A row is
good by the ranges and checks of its table, made in the tables as they would stand after the commit: GEOMETRY R6 to R9, SCANSET
R55 and R56, SIGNATURE R65, ROUTING R77, PATTERN R97, STACKER R128, R129 and R9, OFFICE R166; no LAMP row is bad. -/
def Obligations.TableCommitTests : Prop :=
  (∀ (dest src : Byte) (sum : BitVec 16) (s : State), servedAtOnce dest src 1 s →
    (s.store.load = none →
      exec (.tableCommit dest src sum) s
        = .next (joinAnswer (oneAnswer src 0x08 .sequence ([0xFF, 0, 0, 0] ++ loadData none)) s))
    ∧ ∀ (l : Load), s.store.load = some l →
      ∀ aborted, aborted = setReserved 0 (setFlag .loaderr (setReserved 1 { s with store := { s.store with load := none } })) →
      ∀ running, running = (s.track.mode = .running ∨ s.track.mode = .draining) →
      (running →
        exec (.tableCommit dest src sum) s
          = .next (joinAnswer (oneAnswer src 0x08 .mode ([0xFF, 0, 0, 0] ++ loadData (some l))) s))
      ∧ (¬running → isProtected s.store l.table = true →
        exec (.tableCommit dest src sum) s
          = .next (joinAnswer (oneAnswer src 0x08 .protected_ ([0xFF, 0, 0, 0] ++ loadData none)) aborted))
      ∧ (¬running → isProtected s.store l.table = false → l.rows.length < l.declared →
        exec (.tableCommit dest src sum) s
          = .next (joinAnswer (oneAnswer src 0x08 .sequence ([0xFF, 0, 0, 0] ++ loadData none)) aborted))
      ∧ (¬running → isProtected s.store l.table = false → l.declared ≤ l.rows.length → l.sum ≠ sum →
        exec (.tableCommit dest src sum) s
          = .next (joinAnswer (oneAnswer src 0x08 .check ([0xFF, 0, 0, 0] ++ loadData none)) aborted))
      ∧ (∀ i, ¬running → isProtected s.store l.table = false → l.declared ≤ l.rows.length → l.sum = sum →
        i < rowCount l.table → goodRow s (overlay s.store.tables l) l.table i = false →
        (∀ j, j < i → goodRow s (overlay s.store.tables l) l.table j = true) →
        exec (.tableCommit dest src sum) s
          = .next (joinAnswer (oneAnswer src 0x08 .range ([byteOf i, 0, 0, 0] ++ loadData none)) aborted))
      ∧ (¬running → isProtected s.store l.table = false → l.declared ≤ l.rows.length → l.sum = sum →
        (∀ j, j < rowCount l.table → goodRow s (overlay s.store.tables l) l.table j = true) →
        ∃ (st : TableStore) (u : State),
          exec (.tableCommit dest src sum) s
            = .next (joinAnswer
                (oneAnswer src 0x08 .ok
                  ([0xFF, tableCode l.table, byteOf l.first, byteOf l.rows.length] ++ loadData none)) u)
          ∧ (l.table = .signature ∨ l.table = .routing ∨ l.table = .pattern ∨ l.table = .scanset ∨ l.table = .office →
              u = { s with store := st })
          ∧ (l.table = .geometry → u = { s with
              store := st
              position := { s.position with
                lane := some ⟨(geometryOf st.tables).dGate - (geometryOf st.tables).lGate, (geometryOf st.tables).dGate,
                  (geometryOf st.tables).dcStraight, convert (geometryOf st.tables).dGate (geometryOf st.tables).turnScale
                    .turn (geometryOf st.tables).dcTurn⟩
                stackers := if isCommitted s.store .stacker then some (stackerDistances st.tables)
                  else s.position.stackers } })
          ∧ (l.table = .stacker → u = setReserved 0 (recomputeLamps (setReserved 1 { s with
              store := st
              position := { s.position with
                stackers := if isCommitted s.store .geometry then some (stackerDistances st.tables)
                  else s.position.stackers } })))
          ∧ (l.table = .lamp → u = setReserved 0 (reissueLamps (setReserved 1 { s with store := st })))
          ∧ st.load = none
          ∧ (∀ w, isCommitted st w = (isCommitted s.store w || decide (w = l.table)))
          ∧ (∀ w j, j < rowCount w → tableRow st.tables w j
              = if w = l.table ∧ l.first ≤ j ∧ j < l.first + l.rows.length then (l.rows[j - l.first]?).getD 0
                else tableRow s.store.tables w j)
          ∧ st.protectedSet = s.store.protectedSet ∧ st.chanceUsed = s.store.chanceUsed
          ∧ st.cursorTable = s.store.cursorTable ∧ st.cursorRow = s.store.cursorRow))
    ∧ (∀ (ts : Tables) (l : Load) (w : TableId) (j : Nat), j < rowCount w →
      tableRow (overlay ts l) w j
        = if w = l.table ∧ l.first ≤ j ∧ j < l.first + l.rows.length then (l.rows[j - l.first]?).getD 0
          else tableRow ts w j)
    ∧ ∀ (s : State) (ts : Tables) (g : Geometry), g = geometryOf ts →
    ∀ row : Fin 8 → StackerRow, (∀ n, row n = stackerRow (tableRow ts .stacker n.val)) →
    ∀ path : Fin 8 → Path, (∀ n, path n = if n.val < 4 then .straight else .turn) →
    (∀ n : Fin 8, (stackerDistances ts)[n]
        = ⟨convert g.dGate g.turnScale (path n) (row n).arrival, convert g.dGate g.turnScale (path n) (row n).diverter⟩)
    ∧ ∀ distancesGood : Fin 8 → Prop, (∀ n, distancesGood n ↔
        convert g.dGate g.turnScale (path n) (row n).arrival + (row n).tolerance ≤ 24575
        ∧ (n ≠ 0 → n ≠ 4 → g.dGate < convert g.dGate g.turnScale (path n) (row n).diverter
          ∧ convert g.dGate g.turnScale (path n) (row n).diverter < convert g.dGate g.turnScale (path n) (row n).arrival)) →
      (goodRow s ts .geometry 0 = true ↔
        1000 ≤ g.dGate ∧ g.dGate ≤ 8000 ∧ 16 ≤ g.lGate ∧ g.lGate ≤ 1000 ∧ 16 ≤ g.sGate ∧ g.sGate ≤ 1000
        ∧ 400 ≤ g.minLength ∧ g.minLength ≤ 1200 ∧ g.minLength ≤ g.maxLength ∧ g.maxLength ≤ 2000 ∧ g.minGap ≤ 1000
        ∧ (g.maxLength : Int) + 64 ≤ (g.dGate : Int) - g.lGate)
      ∧ (goodRow s ts .geometry 1 = true ↔
        g.dcStraight ≤ 16000 ∧ g.dcTurn ≤ 16000 ∧ 3686 ≤ g.turnScale ∧ g.turnScale ≤ 4506 ∧ 16 ≤ g.lPrint
        ∧ g.lPrint ≤ 2000 ∧ g.rHead ≤ 400 ∧ g.dGate < g.dcStraight
        ∧ g.dGate < convert g.dGate g.turnScale .turn g.dcTurn)
      ∧ (goodRow s ts .geometry 2 = true ↔
        100 ≤ g.restartDelay ∧ g.restartDelay ≤ 30000 ∧ g.faultWindow ≤ 60000 ∧ 1000 ≤ g.purgeTimeout
        ∧ g.purgeTimeout ≤ 60000)
      ∧ (goodRow s ts .geometry 3 = true ↔
        g.stackMargin ≤ 64 ∧ (isCommitted s.store .stacker = true → ∀ n, distancesGood n))
      ∧ (∀ n : Fin 8, goodRow s ts .stacker n.val = true ↔
        (n ≠ 0 → n ≠ 4 → (row n).diverter ≤ 24575) ∧ (row n).arrival ≤ 24575 ∧ 8 ≤ (row n).tolerance
        ∧ (row n).tolerance ≤ 1023 ∧ (row n).capacity ≤ 4000 ∧ (row n).warn ≤ (row n).capacity
        ∧ (∀ p, (row n).nearPattern = some p → p ≤ 3) ∧ (∀ p, (row n).fullPattern = some p → p ≤ 3)
        ∧ (s.stackers[n].inFlight + s.stackers[n].arrived.toNat ≤ (row n).capacity
          ∨ (n = 0 ∨ n = 4) ∧ (row n).capacity = 0)
        ∧ (isCommitted s.store .geometry = true → distancesGood n))
      ∧ (∀ k, k = scansetOf ts →
        (goodRow s ts .scanset 0 = true ↔
          16 ≤ k.window ∧ k.window ≤ 96 ∧ k.upper ≠ 0 ∧ k.lower ≠ 0 ∧ k.gap ≤ 64)
        ∧ (goodRow s ts .scanset 1 = true ↔
          1 ≤ k.hit.glow ∧ k.hit.glow ≤ 1023 ∧ 1 ≤ k.hit.fluor ∧ k.hit.fluor ≤ 1023 ∧ 1 ≤ k.hit.red ∧ k.hit.red ≤ 1023))
      ∧ (∀ i e, e = signatureEntry (tableRow ts .signature i) →
        (goodRow s ts .signature i = true ↔ (e.enabled = true →
          e.kind ≠ 0 ∧ e.band ≤ 2 ∧ e.areaMin ≤ e.areaMax ∧ e.areaMax ≤ 768 ∧ e.qLow ≤ e.qHigh)))
      ∧ (∀ i r, r = routingRow (tableRow ts .routing i) →
        (goodRow s ts .routing i = true ↔ (r.enabled = true →
          r.lengthMin ≤ r.lengthMax ∧ r.lengthMin ≤ 4095 ∧ r.lengthMax ≤ 4095 ∧ r.path ≤ 1
          ∧ (∀ p, r.pattern = some p → p ≤ 7) ∧ r.primary ≤ 7 ∧ (r.primary < 4 ↔ r.path = 0)
          ∧ (∀ a, r.alternate = some a → a ≤ 7 ∧ (a < 4 ↔ r.path = 0) ∧ a ≠ r.primary)
          ∧ (∀ t, r.tally = some t → 37 ≤ t ∧ t ≤ 63))))
      ∧ (∀ i r, r = patternRow (tableRow ts .pattern i) →
        (goodRow s ts .pattern i = true ↔
          r.postmark ≤ 1023 ∧ (r.least = 0 ∨ 16 ≤ r.least ∧ r.least ≤ 1023) ∧ r.style ≤ 2))
      ∧ (goodRow s ts .office 0 = true ↔ officeNumber ts ≤ 99999 ∧ laneNumber ts ≤ 15 ∧ cutoverHour ts ≤ 23)
      ∧ (goodRow s ts .office 1 = true ↔ ∀ k, k < 8 → ∀ n, n = byteAt (tableRow ts .office 1) k →
          n ≤ 30 ∧ n ≠ s.ring.own.toNat)
      ∧ ∀ i, goodRow s ts .lamp i = true

/-- TABLE READ answers 1 to 3 live rows from a position, or from the cursor, and moves the cursor behind them; another count, an
identifier above 7 or a row that the table does not have is answered RANGE and moves nothing (R169). -/
def Obligations.TableReadAnswersRows : Prop :=
  ∀ (dest src k : Byte) (position : Option (Byte × Byte)) (s : State),
    (∀ b r, position = some (b, r) → tableOf b = none → servedAtOnce dest src 1 s →
      exec (.tableRead dest src k position) s = .next (joinAnswer (oneAnswer src 0x0A .range (cursorData s.store)) s))
    ∧ ∀ t r, (position = none ∧ t = s.store.cursorTable ∧ r = s.store.cursorRow
        ∨ ∃ b x : Byte, position = some (b, x) ∧ tableOf b = some t ∧ r = x.toNat) →
      (k.toNat = 0 ∨ 3 < k.toNat ∨ rowCount t < r + k.toNat → servedAtOnce dest src 1 s →
        exec (.tableRead dest src k position) s = .next (joinAnswer (oneAnswer src 0x0A .range (cursorData s.store)) s))
      ∧ (1 ≤ k.toNat → k.toNat ≤ 3 → r + k.toNat ≤ rowCount t →
        ∀ st data, st = { s.store with cursorTable := t, cursorRow := r + k.toNat } →
        data = [tableCode t, byteOf (r + k.toNat), indicator (isCommitted s.store t), indicator (isProtected s.store t),
            tableCode t, byteOf r, k]
          ++ (List.range k.toNat).flatMap (fun i => natBytes 16 (tableRow s.store.tables t (r + i)).toNat) →
        servedAtOnce dest src (answerParts data).length s →
        exec (.tableRead dest src k position) s = .next (joinWhole (station src) 0x0A ⟨{ s with store := st }, .ok, data⟩))

/-! ## Lane modes -/

/-- MODE by its tests in order: bad arguments, a forbidden jump with its flag, and a missing table change nothing else; an applied
transition is followed by the head list, and the answer shows the mode and each listed head's state afterwards (R21 to R24).
An entry acts on its head as HEAD CONTROL ENABLE (R112) or DISABLE (R113) does; Obligations.HeadEnableDisableStatus says what a
drop does. Notices join before the answer (notes/assumptions/10.md). -/
def Obligations.ModeTests : Prop :=
  (∀ (dest src target : Byte) (entries : List (Byte × Byte)) (s : State), 1 + 2 * entries.length ≤ maxArgs →
    servedAtOnce dest src 1 s →
    ∀ good, good = (entries.length ≤ 4 ∧ ∀ e ∈ entries, e.1.toNat < 4 ∧ e.2.toNat ≤ 1) →
    ∀ now, now = modeCode s.track.mode →
    (modeOf target = none ∨ ¬good →
      exec (.mode dest src target entries) s = .next (joinAnswer (oneAnswer src 0x04 .range [now, 0xFF]) s))
    ∧ ∀ m, modeOf target = some m → good →
      ∀ forbidden, forbidden = ((s.track.mode, m) ∈ ([(.stopped, .draining), (.running, .service), (.draining, .service),
        (.service, .running), (.service, .draining)] : List (LaneMode × LaneMode))) →
      (forbidden →
        exec (.mode dest src target entries) s
          = .next (joinAnswer (oneAnswer src 0x04 .forbidden [now, 0xFF])
              (setReserved 0 (setFlag .forbidden (setReserved 1 s)))))
      ∧ (∀ t, s.track.mode = .stopped → m = .running → t ∈ ([.stacker, .geometry, .scanset, .office] : List TableId) →
        isCommitted s.store t = false → (∀ u ∈ ([.stacker, .geometry, .scanset, .office] : List TableId),
          (tableNumber u).val < (tableNumber t).val → isCommitted s.store u = true) →
        exec (.mode dest src target entries) s
          = .next (joinAnswer (oneAnswer src 0x04 .range [now, tableCode t]) s))
      ∧ (¬forbidden → (s.track.mode = .stopped → m = .running →
          ∀ u ∈ ([.stacker, .geometry, .scanset, .office] : List TableId), isCommitted s.store u = true) →
        ∃ (es : List HeadEntry) (u : State),
          es.map (fun e => (e.head.val, e.enable)) = entries.map (fun e => (e.1.toNat, decide (e.2 = 0)))
          ∧ u = setReserved 0 (es.foldl applyEntry (applyMode m (setReserved 1 s)))
          ∧ exec (.mode dest src target entries) s
            = .next (joinAnswer
                (oneAnswer src 0x04 .ok
                  ([modeCode u.track.mode, 0xFF] ++ es.map fun e => headStateCode u.heads[e.head].state)) u)))
    ∧ (∀ modes : List LaneMode, modes = [.stopped, .running, .draining, .service] →
      (∀ m, modeCode m = BitVec.ofNat 8 (modes.idxOf m)) ∧ ∀ b : Byte, modeOf b = modes[b.toNat]?)
    ∧ ∀ (e : HeadEntry) (w : State) (k : Head), w.heads[e.head] = k →
      (e.enable = true →
        (k.state = .disabled ∨ k.state = .latched → applyEntry w e = { w with
          heads := w.heads.set e.head.val { k with state := .ready, faultWindow := none } e.head.isLt })
        ∧ (k.state = .resting → applyEntry w e = { w with
          heads := w.heads.set e.head.val { k with restart := none, state := .ready, faultWindow := openWindow w }
            e.head.isLt })
        ∧ (k.state = .ready ∨ k.state = .purgeWait ∨ k.state = .purging → applyEntry w e = w))
      ∧ (e.enable = false → ∀ u k', u = dropBookings e.head w →
        k' = { k with
          bookings := [], restart := none, purge := none, faultWindow := none, abort := false, state := .disabled } →
        applyEntry w e = { u with heads := u.heads.set e.head.val k' e.head.isLt })

/-- The transitions of an applied MODE ask. RUNNING and SERVICE only set the mode, as does DRAINING while the track holds a letter;
with an empty track DRAINING completes at once, in STOPPED. STOPPED abandons the track (R22, R25, R26): every letter counts
ABANDONED, and letters, queue, subject, scan context, plan and bookings are gone. Nothing else is counted, and no print fails.
A head in PURGE-WAIT starts its purge with its timer and its PURGE order, in head order (R25, R110); the others keep their
states, timers, windows, and all keep their last outcomes (R95). The lamp of every stacker is recomputed in stacker order
(R142), before the PURGE orders are issued: that order is the model's reading (DEDUCED, notes/assumptions/23.md). -/
def Obligations.ModeTransitions : Prop :=
  ∀ s : State,
    (applyMode .running s = { s with track := { s.track with mode := .running } })
    ∧ (applyMode .service s = { s with track := { s.track with mode := .service } })
    ∧ (s.track.letters ≠ [] → applyMode .draining s = { s with track := { s.track with mode := .draining } })
    ∧ (s.track.letters = [] →
      applyMode .draining s = { s with
        track := { s.track with mode := .stopped, lastTrailing := none }
        routing := { s.routing with plan := [] } })
    ∧ ∀ t, t = applyMode .stopped s →
      t.track = { s.track with
          letters := [], mode := .stopped, lastTrailing := none, trailExpected := (openLetter s).isSome }
      ∧ t.eval = { s.eval with queue := [], subject := none }
      ∧ t.scan = { s.scan with context := none, storeF := [], storeR := [] }
      ∧ t.routing = { s.routing with plan := [] }
      ∧ noBookings t
      ∧ (∀ d, d = (if isCommitted s.store .geometry then (geometryOf s.store.tables).purgeTimeout else 1000) →
        ∀ h : Fin 4, t.heads[h]
          = if s.heads[h].state = .purgeWait then
              { s.heads[h] with bookings := [], purge := some ⟨d, d⟩, state := .purging }
            else { s.heads[h] with bookings := [] })
      ∧ t.tally.live[tallyOfRetirement .abandoned]
          = s.tally.live[tallyOfRetirement .abandoned] + BitVec.ofNat 32 s.track.letters.length
      ∧ (∀ i : Fin 64, i ≠ tallyOfRetirement .abandoned →
        t.tally.live[i] = s.tally.live[i] ∧ t.tally.liveMarks[i] = s.tally.liveMarks[i])
      ∧ t.tally = { s.tally with live := t.tally.live, liveMarks := t.tally.liveMarks }
      ∧ flagSet t .printfail = flagSet s .printfail
      ∧ (∀ n : Fin 8, t.stackers[n].inFlight = s.stackers[n].inFlight - (lettersTo s n).length
          ∧ t.stackers[n].arrived = s.stackers[n].arrived ∧ t.stackers[n].lamp = lampConditionOf t n)
      ∧ (∃ v : State,
        changesOnly [.track, .eval, .scan, .routing, .stackers, .tally, .cond, .ring] s v
        ∧ (∀ n : Fin 8, v.stackers[n]
          = { s.stackers[n] with inFlight := s.stackers[n].inFlight - (lettersTo s n).length })
        ∧ (s.tally.live[tallyOfRetirement .abandoned].toNat + s.track.letters.length < 4294967296 →
          v.cond = s.cond ∧ v.ring = s.ring ∧ t.tally.liveMarks = s.tally.liveMarks)
        ∧ t.cond = (recomputeLamps v).cond
        ∧ t.ring = (((List.finRange 4).filter fun h => s.heads[h].state = .purgeWait).foldl
            (fun w h => issueOrder (.purge h) ⟨headStation s.store.tables h, .purge h⟩ w) (recomputeLamps v)).ring)
      ∧ changesOnly [.track, .eval, .scan, .routing, .heads, .stackers, .tally, .cond, .ring] s t

/-- LANE RESET (R185): the blocks at their lane-reset values, the queues emptied, its answer in the empty answer queue, a LAMP order
for every stacker in stacker order, and every flag but CLOCKINVALID clear. The mask, the link counters, the clock, the tables and
the arrived counts are kept, and of the tally unit everything but ABANDONED (R146), whose wrap mark can only become set. That an
IDLE output sends the answer before the LAMP orders rests on the grant at the joining (DEDUCED, notes/assumptions/9.md). -/
def Obligations.LaneResetActs : Prop :=
  ∀ (dest src : Byte) (s : State), servedAtOnce dest src 1 s →
    ∃ t, exec (.laneReset dest src) s = .next t
      ∧ t.track = { s.track with
          letters := [], mode := .stopped, lastTrailing := none, trailExpected := (openLetter s).isSome }
      ∧ t.eval = { s.eval with queue := [], subject := none }
      ∧ t.scan = { s.scan with context := none, storeF := [], storeR := [] }
      ∧ t.routing = { s.routing with plan := [] }
      ∧ (∀ h : Fin 4, t.heads[h] = ⟨.disabled, [], none, none, none, false, s.heads[h].lastPurge⟩)
      ∧ (∀ n : Fin 8, t.stackers[n] = ⟨0, s.stackers[n].arrived, lampCondition (stackerInForce s n).capacity
          (stackerInForce s n).warn s.stackers[n].arrived.toNat⟩)
      ∧ t.store = { s.store with load := none }
      ∧ (∀ f, flagSet t f = (flagSet s f && decide (f = .clockinvalid))) ∧ t.cond.mask = s.cond.mask
      ∧ (∀ i : Fin 64, i ≠ 3 → t.tally.live[i] = s.tally.live[i] ∧ t.tally.liveMarks[i] = s.tally.liveMarks[i])
      ∧ t.tally.live[3] = s.tally.live[3] + BitVec.ofNat 32 s.track.letters.length
      ∧ (s.tally.live[3].toNat + s.track.letters.length < 4294967296 → t.tally.liveMarks[3] = s.tally.liveMarks[3])
      ∧ (s.tally.liveMarks[3] = true → t.tally.liveMarks[3] = true)
      ∧ t.tally.snapshot = s.tally.snapshot ∧ t.tally.snapshotMarks = s.tally.snapshotMarks
      ∧ t.tally.number = s.tally.number ∧ t.tally.cursor = s.tally.cursor
      ∧ t.ring.forward = [] ∧ t.ring.waiting = [] ∧ t.ring.intake = [] ∧ t.ring.counters = s.ring.counters
      ∧ t.ring.own = s.ring.own
      ∧ t.ring.orders = (List.finRange 8).map (fun n => lampOrder t n t.stackers[n].lamp)
      ∧ (∀ a, a = oneAnswer src 0x05 .ok [s.ring.own.setWidth 8, 0, byteOf s.track.letters.length] →
        (s.ring.sending.isSome = true →
          t.ring.answers = [a] ∧ t.ring.sending = s.ring.sending ∧ t.ring.turn = s.ring.turn)
        ∧ (s.ring.sending = none →
          t.ring.answers = [] ∧ t.ring.sending = some (replyFrame s.ring.own a) ∧ t.ring.turn = .forward))
      ∧ t.clock = s.clock ∧ t.position = s.position ∧ t.time = s.time

/-! ## Cancel heads -/

/-- The answer of a HEAD CONTROL ask for a head (R114). -/
def Sys2Proof.Machine.headAnswer (src head action : Byte) (status : Status) (k : Head) : Reply :=
  oneAnswer src 0x13 status [head, action, headStateCode k.state, byteOf k.bookings.length,
    indicator k.faultWindow.isSome, purgeCode k.lastPurge]

/-- HEAD CONTROL with action ENABLE, DISABLE or STATUS (R112 to R114): the head's new state and timers, the answer, and a head
number above 3, or an action outside the five, refused with RANGE. DISABLE first drops the head's bookings, its notices before
the answer (notes/assumptions/10.md): each letter's print becomes FAILED, PRINTFAIL counts each booking and its flag is set with
the first (R106). -/
def Obligations.HeadEnableDisableStatus : Prop :=
  (∀ (dest src head : Byte) (s : State), servedAtOnce dest src 1 s →
    (4 ≤ head.toNat →
      exec (.headControlEnable dest src head) s
          = .next (joinAnswer (oneAnswer src 0x13 .range [head, 0, 0xFF, 0xFF, 0xFF, 0xFF]) s)
      ∧ exec (.headControlDisable dest src head) s
          = .next (joinAnswer (oneAnswer src 0x13 .range [head, 1, 0xFF, 0xFF, 0xFF, 0xFF]) s)
      ∧ exec (.headControlStatus dest src head) s
          = .next (joinAnswer (oneAnswer src 0x13 .range [head, 4, 0xFF, 0xFF, 0xFF, 0xFF]) s))
    ∧ ∀ (h : Fin 4) (k : Head), head.toNat = h.val → s.heads[h] = k →
      (k.state = .disabled ∨ k.state = .latched →
        ∀ k', k' = { k with state := .ready, faultWindow := none } →
        exec (.headControlEnable dest src head) s
          = .next (joinAnswer (headAnswer src head 0 .ok k') { s with heads := s.heads.set h.val k' h.isLt }))
      ∧ (k.state = .resting →
        ∀ k', k' = { k with restart := none, state := .ready, faultWindow := openWindow s } →
        exec (.headControlEnable dest src head) s
          = .next (joinAnswer (headAnswer src head 0 .ok k') { s with heads := s.heads.set h.val k' h.isLt }))
      ∧ (k.state = .ready →
        exec (.headControlEnable dest src head) s = .next (joinAnswer (headAnswer src head 0 .ok k) s))
      ∧ (k.state = .purgeWait ∨ k.state = .purging →
        exec (.headControlEnable dest src head) s = .next (joinAnswer (headAnswer src head 0 .busy k) s))
      ∧ (∀ u k', u = setReserved 0 (dropBookings h (setReserved 1 s)) →
        k' = { k with
          bookings := [], restart := none, purge := none, faultWindow := none, abort := false, state := .disabled } →
        exec (.headControlDisable dest src head) s
          = .next (joinAnswer (headAnswer src head 1 .ok k') { u with heads := u.heads.set h.val k' h.isLt }))
      ∧ exec (.headControlStatus dest src head) s = .next (joinAnswer (headAnswer src head 4 .ok k) s))
    ∧ (∀ (dest src head action : Byte) (s : State), servedAtOnce dest src 1 s → 5 ≤ action.toNat →
      (4 ≤ head.toNat →
        exec (.ask dest src 0x13 [head, action]) s
          = .next (joinAnswer (oneAnswer src 0x13 .range [head, action, 0xFF, 0xFF, 0xFF, 0xFF]) s))
      ∧ ∀ (h : Fin 4) (k : Head), head.toNat = h.val → s.heads[h] = k →
        exec (.ask dest src 0x13 [head, action]) s = .next (joinAnswer (headAnswer src head action .range k) s))
    ∧ (∀ st, headStateCode st
      = BitVec.ofNat 8 (([.disabled, .ready, .purgeWait, .purging, .resting, .latched] : List HeadState).idxOf st))
    ∧ (∀ o, purgeCode o = BitVec.ofNat 8 (([.none, .complete, .aborted, .timeout] : List PurgeOutcome).idxOf o))
    ∧ ∀ (h : Fin 4) (s t : State) (dropped : List Booking), dropped = s.heads[h].bookings → t = dropBookings h s →
      t.heads = s.heads.set h.val { s.heads[h] with bookings := [] } h.isLt
      ∧ t.track = { s.track with
          letters := s.track.letters.map fun l =>
            if dropped.any (fun b => b.tag = l.seq) then { l with print := l.print.map fun p => { p with status := .failed } }
            else l }
      ∧ t.tally.live[tallyPrintfail] = s.tally.live[tallyPrintfail] + BitVec.ofNat 32 dropped.length
      ∧ (∀ i : Fin 64, i ≠ tallyPrintfail → t.tally.live[i] = s.tally.live[i])
      ∧ (dropped ≠ [] → flagSet t .printfail = true)
      ∧ (s.tally.live[tallyPrintfail].toNat + dropped.length < 4294967296 →
        ∀ u, u = (if dropped = [] then s else setFlag .printfail s) → t.cond = u.cond ∧ t.ring = u.ring)
      ∧ changesOnly [.heads, .track, .tally, .cond, .ring] s t

/-- HEAD CONTROL with action PURGE or ABORT PURGE by the state of the head (R109, R111, R114). A PURGE order goes out at once for a
READY head with an empty list; the order waits where the order queue is full, the head's state and timer do not. -/
def Obligations.HeadPurgeAndAbort : Prop :=
  ∀ (dest src head : Byte) (s : State), servedAtOnce dest src 1 s →
    (4 ≤ head.toNat →
      exec (.headControlPurge dest src head) s
          = .next (joinAnswer (oneAnswer src 0x13 .range [head, 2, 0xFF, 0xFF, 0xFF, 0xFF]) s)
      ∧ exec (.headControlAbortPurge dest src head) s
          = .next (joinAnswer (oneAnswer src 0x13 .range [head, 3, 0xFF, 0xFF, 0xFF, 0xFF]) s))
    ∧ ∀ (h : Fin 4) (k : Head), head.toNat = h.val → s.heads[h] = k →
      (k.state = .ready → k.bookings ≠ [] → ∀ k', k' = { k with state := .purgeWait } →
        exec (.headControlPurge dest src head) s
          = .next (joinAnswer (headAnswer src head 2 .ok k') { s with heads := s.heads.set h.val k' h.isLt }))
      ∧ (k.state = .ready → k.bookings = [] →
        ∀ u k' d, u = issueOrder (.purge h) ⟨headStation s.store.tables h, .purge h⟩ s →
        d = (if isCommitted s.store .geometry then (geometryOf s.store.tables).purgeTimeout else 1000) →
        k' = { k with purge := some ⟨d, d⟩, state := .purging } →
        exec (.headControlPurge dest src head) s
          = .next (joinAnswer (headAnswer src head 2 .ok k') { u with heads := u.heads.set h.val k' h.isLt }))
      ∧ (k.state = .purgeWait ∨ k.state = .purging ∨ k.state = .resting →
        exec (.headControlPurge dest src head) s = .next (joinAnswer (headAnswer src head 2 .busy k) s))
      ∧ (k.state = .disabled ∨ k.state = .latched →
        exec (.headControlPurge dest src head) s = .next (joinAnswer (headAnswer src head 2 .sequence k) s))
      ∧ (k.state = .purgeWait → ∀ k', k' = { k with state := .ready } →
        exec (.headControlAbortPurge dest src head) s
          = .next (joinAnswer (headAnswer src head 3 .ok k') { s with heads := s.heads.set h.val k' h.isLt }))
      ∧ (k.state = .purging → k.abort = false →
        ∀ u k', u = issueOrder (.abort h) ⟨headStation s.store.tables h, .abort h⟩ s → k' = { k with abort := true } →
        exec (.headControlAbortPurge dest src head) s
          = .next (joinAnswer (headAnswer src head 3 .ok k') { u with heads := u.heads.set h.val k' h.isLt }))
      ∧ (k.state = .purging → k.abort = true →
        exec (.headControlAbortPurge dest src head) s = .next (joinAnswer (headAnswer src head 3 .busy k) s))
      ∧ (k.state = .ready ∨ k.state = .resting ∨ k.state = .latched ∨ k.state = .disabled →
        exec (.headControlAbortPurge dest src head) s = .next (joinAnswer (headAnswer src head 3 .sequence k) s))

/-- A HEADFAULT by the state of the head (R104, R106): its bookings are dropped, each counted under PRINTFAIL, and the head rests
for the restart delay of GEOMETRY, or for 100 ms before GEOMETRY is committed (R6, R13), or is latched when it faults in its fault window, at rest or in a purge. In DISABLED and LATCHED, and for a head above 3, the report
is stray. The print of each dropped booking's letter becomes FAILED (R106); then a DONE print on this head of the letter that the
tag names becomes FAILED, with one more PRINTFAIL and its flag, and any other tag has no effect (R105). No order is issued; the notices
are those of the flags, in the order drop, HEADFAULT, tag, HEADLATCH (DEDUCED, notes/assumptions/30.md). -/
def Obligations.HeadFaultTaken : Prop :=
  ∀ (dest src head : Byte) (tag : Option Seq) (s : State), addressedToPart dest src s →
    (4 ≤ head.toNat → exec (.headfault dest src head tag) s = .next (countStrayReport s))
    ∧ ∀ (h : Fin 4) (k : Head), head.toNat = h.val → s.heads[h] = k →
      (k.state = .disabled ∨ k.state = .latched →
        exec (.headfault dest src head tag) s = .next (countStrayReport s))
      ∧ (k.state = .ready ∨ k.state = .purgeWait → k.faultWindow = none →
        ∀ d, d = (if isCommitted s.store .geometry then (geometryOf s.store.tables).restartDelay else 100) →
        ∃ t, exec (.headfault dest src head tag) s = .next t
          ∧ t.heads = s.heads.set h.val { k with
              bookings := [], restart := some ⟨d, d⟩, state := .resting } h.isLt
          ∧ flagSet t .headfault = true ∧ (k.bookings ≠ [] → flagSet t .printfail = true)
          ∧ (tag = none → t.tally.live[tallyPrintfail]
              = s.tally.live[tallyPrintfail] + BitVec.ofNat 32 k.bookings.length)
          ∧ changesOnly [.heads, .track, .tally, .cond, .ring] s t)
      ∧ (k.state = .ready ∨ k.state = .purgeWait → k.faultWindow.isSome = true →
        ∃ t, exec (.headfault dest src head tag) s = .next t
          ∧ t.heads = s.heads.set h.val { k with bookings := [], faultWindow := none, state := .latched } h.isLt
          ∧ flagSet t .headfault = true ∧ flagSet t .headlatch = true
          ∧ (k.bookings ≠ [] → flagSet t .printfail = true)
          ∧ changesOnly [.heads, .track, .tally, .cond, .ring] s t)
      ∧ (k.state = .resting ∨ k.state = .purging →
        ∃ t, exec (.headfault dest src head tag) s = .next t
          ∧ t.heads[h].state = .latched ∧ t.heads[h].bookings = k.bookings ∧ t.heads[h].faultWindow = none
          ∧ (k.state = .resting → t.heads[h].restart = none)
          ∧ (k.state = .purging → t.heads[h].purge = none ∧ t.heads[h].abort = false)
          ∧ (∀ j : Fin 4, j ≠ h → t.heads[j] = s.heads[j])
          ∧ flagSet t .headfault = true ∧ flagSet t .headlatch = true
          ∧ changesOnly [.heads, .track, .tally, .cond, .ring] s t)
      ∧ (k.state ≠ .disabled → k.state ≠ .latched →
        ∀ dropped, dropped = (if k.state = .ready ∨ k.state = .purgeWait then k.bookings else []) →
        ∀ failed : Letter → Letter,
        (∀ l, failed l = { l with print := l.print.map fun p => { p with status := .failed } }) →
        ∀ kept, kept = s.track.letters.map (fun l => if dropped.any (fun b => b.tag = l.seq) then failed l else l) →
        ∀ spoiled : Prop, spoiled = (∃ q l p, tag = some q ∧ kept.find? (fun l => l.seq = q) = some l ∧ l.print = some p
          ∧ p.head = h ∧ p.status = .done) →
        ∃ t, exec (.headfault dest src head tag) s = .next t
          ∧ (spoiled →
            t.track = { s.track with letters := kept.map fun l => if tag = some l.seq then failed l else l }
            ∧ t.tally.live[tallyPrintfail] = s.tally.live[tallyPrintfail] + BitVec.ofNat 32 (dropped.length + 1)
            ∧ flagSet t .printfail = true)
          ∧ (¬spoiled →
            t.track = { s.track with letters := kept }
            ∧ t.tally.live[tallyPrintfail] = s.tally.live[tallyPrintfail] + BitVec.ofNat 32 dropped.length)
          ∧ (∀ i : Fin 64, i ≠ tallyPrintfail → t.tally.live[i] = s.tally.live[i])
          ∧ ∀ u v w, u = setFlag .headfault (if k.state = .ready ∨ k.state = .purgeWait then dropBookings h s else s) →
            (spoiled → v = setFlag .printfail (count tallyPrintfail u)) → (¬spoiled → v = u) →
            w = (if k.state = .resting ∨ k.state = .purging ∨ k.faultWindow.isSome = true then setFlag .headlatch v else v) →
            t.cond = w.cond ∧ t.ring = w.ring)

/-- A PURGEDONE ends the purge of a head in PURGING with the report's outcome; for any other head it is stray (R107). The expiry of a
head's restart timer makes it READY and opens its fault window, that of the fault window closes it, and that of the purge timer
latches a head in PURGING and sets HEADFAULT and HEADLATCH (R13, R106, R108). The expiry commands take whatever is left of a
timer as run down (notes/assumptions/17.md). -/
def Obligations.PurgesRestsAndWindowsEnd : Prop :=
  (∀ (dest src head : Byte) (o : PurgeReport) (s : State), addressedToPart dest src s →
    (4 ≤ head.toNat → exec (.purgedone dest src head o) s = .next (countStrayReport s))
    ∧ ∀ (h : Fin 4), head.toNat = h.val →
      (s.heads[h].state = .purging → ∃ k, k = { s.heads[h] with
          purge := none, abort := false, state := .ready
          lastPurge := (match o with
            | .complete => .complete
            | .aborted => .aborted) }
        ∧ exec (.purgedone dest src head o) s = .next { s with heads := s.heads.set h.val k h.isLt })
      ∧ (s.heads[h].state ≠ .purging → exec (.purgedone dest src head o) s = .next (countStrayReport s)))
    ∧ (∀ (h : Fin 4) (s : State) (d : Nat),
    d = (if isCommitted s.store .geometry then (geometryOf s.store.tables).faultWindow else 0) →
    (s.heads[h].restart.isSome = true → ∃ k, k = { s.heads[h] with
        restart := none, state := .ready, faultWindow := if d = 0 then none else some ⟨d, d⟩ }
      ∧ exec (.restartTimerExpiry h) s = .next { s with heads := s.heads.set h.val k h.isLt })
    ∧ exec (.faultWindowExpiry h) s
      = .next { s with heads := s.heads.set h.val { s.heads[h] with faultWindow := none } h.isLt }
    ∧ (s.heads[h].state = .purging → ∃ k, k = { s.heads[h] with
        purge := none, abort := false, lastPurge := .timeout, state := .latched, faultWindow := none }
      ∧ exec (.purgeTimeout h) s
        = .next (setFlag .headlatch (setFlag .headfault { s with heads := s.heads.set h.val k h.isLt }))))

/-! ## Stackers -/

/-- A sweep, by a SWEPT report or by STACKER SWEEP, empties the arrived count, leaves the in-flight count and recomputes the lamp;
the ask sweeps its set in stacker order and answers 18 bytes for each stacker (R143, R144), behind its notices
(notes/assumptions/10.md). The bytes of a stacker are those of R191. A SWEPT report for a stacker above 7 is stray. -/
def Obligations.SweepsEmptyStackers : Prop :=
  (∀ (dest src : Byte) (s : State), addressedToPart dest src s →
    (∀ n : Byte, 8 ≤ n.toNat → exec (.swept dest src n) s = .next (countStrayReport s))
    ∧ (∀ (b : Byte) (n : Fin 8), b.toNat = n.val → ∃ t, exec (.swept dest src b) s = .next t
      ∧ t = recomputeLamp n { s with
          stackers := s.stackers.set n.val { s.stackers[n] with arrived := 0 } n.isLt }
      ∧ committed t n = s.stackers[n].inFlight)
    ∧ (∀ set : Byte, servedAtOnce dest src 3 s → ∃ u data,
      exec (.stackerSweep dest src set) s = .next (joinWhole (station src) 0x14 ⟨setReserved 0 u, .ok, data⟩)
      ∧ u = ((List.finRange 8).filter fun n => set.getLsbD n.val).foldl (fun s n => sweep n s) (setReserved 3 s)
      ∧ data = (List.finRange 8).flatMap (fun n =>
          stackerData u (if set.getLsbD n.val then s.stackers[n].arrived.toNat else 0) n)
      ∧ data.length = 144
      ∧ ∀ n : Fin 8, u.stackers[n].inFlight = s.stackers[n].inFlight
          ∧ u.stackers[n].arrived = if set.getLsbD n.val then 0 else s.stackers[n].arrived))
    ∧ ∀ low : Nat → Nat → List Byte, (∀ n w, low n w = (List.range n).map fun i => BitVec.ofNat 8 (w / 256 ^ i)) →
    ∀ (u : State) (removed : Nat) (n : Fin 8),
      stackerData u removed n
        = low 1 u.stackers[n].inFlight ++ low 4 u.stackers[n].arrived.toNat
          ++ low 5 (u.stackers[n].inFlight + u.stackers[n].arrived.toNat) ++ low 2 (stackerInForce u n).capacity
          ++ [BitVec.ofNat 8 (([.normal, .near, .full] : List LampCondition).idxOf u.stackers[n].lamp),
            if ∃ w ∈ u.ring.waiting, w.place = .lamp n then 1 else 0]
          ++ low 4 removed

/-- The lamp condition of a stacker is formed from its committed count, capacity and warn level. A recomputation that gives the held
condition has no effect; another replaces it, issues a LAMP order and, on entry into FULL, sets STACKFULL, or for a residue stacker
RESIDUEFULL with a HALT (R136, R137). A LAMP order names the stacker and the pattern of its row for the condition with that
pattern's sixteen steps, or OFF (R136). A LAMP commit issues one for every stacker that shows a pattern, in stacker order
(R138). That the LAMP order is issued before the flag and the HALT of an entry into FULL is the model's reading (DEDUCED,
notes/assumptions/13.md). -/
def Obligations.LampsFollowCounts : Prop :=
  (∀ (n : Fin 8) (s : State) (c : LampCondition), c = lampConditionOf s n →
    stackerInForce s n = stackerRow (tableRow s.store.tables .stacker n.val)
    ∧ committed s n = s.stackers[n].inFlight + s.stackers[n].arrived.toNat
    ∧ (c = .full ↔ 0 < (stackerInForce s n).capacity ∧ (stackerInForce s n).capacity ≤ committed s n)
    ∧ (c = .near ↔ c ≠ .full ∧ 0 < (stackerInForce s n).capacity ∧ 0 < (stackerInForce s n).warn
        ∧ (stackerInForce s n).warn ≤ committed s n)
    ∧ (c = s.stackers[n].lamp → recomputeLamp n s = s)
    ∧ (c ≠ s.stackers[n].lamp → ∀ u, u = issueOrder (.lamp n) (lampOrder s n c)
          { s with stackers := s.stackers.set n.val { s.stackers[n] with lamp := c } n.isLt } →
      recomputeLamp n s
        = if c = .full then
            (if n = 0 ∨ n = 4 then sendHalt (.residuefull n) (setFlag .residuefull u) else setFlag .stackfull u)
          else u))
    ∧ ∀ (s : State) (pattern : Fin 8 → LampCondition → Option Nat),
      (∀ n, pattern n .normal = none ∧ pattern n .near = (stackerInForce s n).nearPattern
        ∧ pattern n .full = (stackerInForce s n).fullPattern) →
      (∀ n c, lampOrder s n c = ⟨officeStation s.store.tables (if n.val < 4 then 6 else 7), .lamp n (pattern n c)
        (match pattern n c with
          | none => 0
          | some p => lampSteps s.store.tables p)⟩)
      ∧ recomputeLamps s = (List.finRange 8).foldl (fun u n => recomputeLamp n u) s
      ∧ reissueLamps s = ((List.finRange 8).filter fun n => (pattern n s.stackers[n].lamp).isSome).foldl
          (fun u n => issueOrder (.lamp n) (lampOrder s n s.stackers[n].lamp) u) s

/-- What the retirement of letter l as DELIVERED or LOST does beside its counts and its stacker (R19): the record leaves the track,
an evaluation's subject is forgotten (R58), the last letter completes a drain (R26), the letter's booking leaves its head, and a head
in PURGE-WAIT whose list this empties starts its purge with its timer and its PURGE order (R13, R110). With u the state after the
stacker unit's share, flags are u's, and the ring port is u's with those orders issued. That they follow the LAMP order of u is the
model's reading (DEDUCED, notes/assumptions/29.md). A letter has one booking; where several lists held one, the orders would go out
in head order (notes/assumptions/14.md). -/
def Sys2Proof.Machine.restOfRetirement (l : Letter) (s u t : State) : Prop :=
  t.track.letters = s.track.letters.filter (fun r => r.seq ≠ l.seq)
  ∧ t.eval = { s.eval with subject := if s.eval.subject = some l.seq then none else s.eval.subject }
  ∧ (s.track.mode = .draining → t.track.letters = [] →
    t.track = { s.track with letters := [], mode := .stopped, lastTrailing := none }
    ∧ t.routing = { s.routing with plan := [] })
  ∧ (s.track.mode ≠ .draining ∨ t.track.letters ≠ [] →
    t.track = { s.track with letters := t.track.letters } ∧ t.routing = s.routing)
  ∧ t.cond = u.cond
  ∧ ∀ (d : Nat) (left : Fin 4 → List Booking) (empties : Fin 4 → Bool),
    d = (if isCommitted s.store .geometry then (geometryOf s.store.tables).purgeTimeout else 1000) →
    (∀ h, left h = s.heads[h].bookings.filter fun b => b.tag ≠ l.seq) →
    (∀ h, empties h = decide (s.heads[h].state = .purgeWait ∧ s.heads[h].bookings ≠ [] ∧ left h = [])) →
    (∀ h : Fin 4, t.heads[h]
      = if empties h then { s.heads[h] with bookings := [], purge := some ⟨d, d⟩, state := .purging }
        else { s.heads[h] with bookings := left h })
    ∧ t.ring = (((List.finRange 4).filter empties).foldl
        (fun w h => issueOrder (.purge h) ⟨headStation s.store.tables h, .purge h⟩ w) u).ring

/-- An ARRIVE for stacker n at X delivers the oldest letter routed to n whose arrival window contains X: the letter leaves the
track, DELIVERED and the stacker's arrival tally are counted, its in-flight count falls, its arrived count rises or stays at
4,294,967,295, and its lamp condition is recomputed (R19, R130, R139). Matching none
it is stray, and for a stacker above 7 a stray report (R139, R140). A letter expects the arrival exactly when it is ROUTED, its
disposition names n, X is at or past its window's start and its window's end is at or past X (R139). The order of the counts, the
lamp and the purge among flags and frames is the model's reading (DEDUCED, notes/assumptions/13.md, notes/assumptions/29.md). -/
def Obligations.ArrivalsMatched : Prop :=
  (∀ (n : Fin 8) (x : Pos) (l : Letter), expectsArrival n x l = true ↔
    l.state = .routed ∧ (∃ d, l.disposition = some d ∧ d.stacker = n)
    ∧ ∃ w, l.window = some w ∧ (x - w.start).toNat < 8388608 ∧ (w.stop - x).toNat < 8388608)
    ∧ ∀ (dest src stacker : Byte) (x : Pos) (s : State), addressedToPart dest src s →
    (8 ≤ stacker.toNat → exec (.arrive dest src stacker x) s = .next (countStrayReport s))
    ∧ countStrayReport s = { s with ring := { s.ring with
        counters := { s.ring.counters with strayReport := satInc16 s.ring.counters.strayReport } } }
    ∧ ∀ n : Fin 8, stacker.toNat = n.val →
      ((∀ l ∈ s.track.letters, expectsArrival n x l = false) →
        exec (.arrive dest src stacker x) s = .next (setFlag .stray (count tallyStray s)))
      ∧ (∀ before l after, s.track.letters = before ++ l :: after → (s.track.letters.map Letter.seq).Nodup →
        expectsArrival n x l = true → (∀ b ∈ before, expectsArrival n x b = false) →
        ∃ t, exec (.arrive dest src stacker x) s = .next t
          ∧ t.track.letters = before ++ after
          ∧ t.stackers[n] = ⟨s.stackers[n].inFlight - 1, satInc32 s.stackers[n].arrived, lampConditionOf t n⟩
          ∧ (satInc32 s.stackers[n].arrived).toNat = min (s.stackers[n].arrived.toNat + 1) 4294967295
          ∧ (∀ j : Fin 8, j ≠ n → t.stackers[j] = s.stackers[j])
          ∧ t.tally.live[tallyOfRetirement .delivered] = s.tally.live[tallyOfRetirement .delivered] + 1
          ∧ t.tally.live[tallyOfArrival n] = s.tally.live[tallyOfArrival n] + 1
          ∧ (∀ c u, c = count (tallyOfArrival n) (count (tallyOfRetirement .delivered) s) →
            u = recomputeLamp n { c with stackers := s.stackers.set n.val { s.stackers[n] with
                inFlight := s.stackers[n].inFlight - 1, arrived := satInc32 s.stackers[n].arrived } n.isLt } →
            t.tally = c.tally ∧ t.stackers = u.stackers ∧ restOfRetirement l s u t)
          ∧ changesOnly [.track, .eval, .routing, .heads, .stackers, .tally, .cond, .ring] s t)

/-! ## Positions, edges and lines -/

/-- A position at or past the belt position and different from it becomes the belt position, and the three owners act on it in some
order; any other leaves the belt and has no advance. Where nothing is in flight the advance moves the belt alone (R3, R4). The
track's share takes its letters oldest first with two tests each (R34). A letter not yet ROUTED whose deadline is reached is
declared late by its state (R35); a ROUTED one whose window end is reached is LOST (R19, R37, R141): LOST is counted and flagged,
its stacker's in-flight count falls and the lamp is recomputed with its LAMP order, its booking is removed, and a head in PURGE-WAIT
that this empties starts its purge with its timer and its PURGE order (R110). That the flag precedes the lamp's frames and these the
PURGE order is the model's reading (DEDUCED, notes/assumptions/13.md, notes/assumptions/29.md). -/
def Obligations.PositionsAdvanceTheBelt : Prop :=
  (∀ (dest src : Byte) (f : Pos) (s : State), addressedToPart dest src s →
    ∀ u, u = { s with position := { s.position with belt := f } } →
    ∀ ahead, ahead = ((f.toNat + 16777216 - s.position.belt.toNat) % 16777216 < 8388608 ∧ f ≠ s.position.belt) →
    (¬ahead → exec (.tick dest src f) s = .next s)
    ∧ exec (.tick dest src f) s = .next (takePosition f s)
    ∧ (ahead → exec (.tick dest src f) s = .next (ownersAdvance u) ∧ (ownersAdvance u).position.belt = f
        ∧ ∃ o ∈ ownerOrders, ∃ k, ownersAdvance u = inOrder o { u with choices := k })
    ∧ (ahead → s.track.letters = [] → s.routing.plan = [] → noBookings s → exec (.tick dest src f) s = .next u))
    ∧ (∀ s : State,
      inOrder ⟨true, true⟩ s = trackAdvance (expireBookings (retirePlan s))
      ∧ inOrder ⟨true, false⟩ s = retirePlan (trackAdvance (expireBookings s))
      ∧ inOrder ⟨false, true⟩ s = expireBookings (trackAdvance (retirePlan s))
      ∧ inOrder ⟨false, false⟩ s = expireBookings (retirePlan (trackAdvance s))
      ∧ trackAdvance s = (s.track.letters.map Letter.seq).foldl (fun u q => testWindowEnd q (testDeadline q u)) s)
    ∧ (∀ (q : Seq) (s : State),
      (findLetter s q = none → testDeadline q s = s ∧ testWindowEnd q s = s)
      ∧ ∀ l, findLetter s q = some l →
        (∀ due, due = ((s.position.belt - l.deadline).toNat < 8388608) →
          (l.state = .routed ∨ ¬due → testDeadline q s = s)
          ∧ (due → l.state = .evaluating → testDeadline q s = lateDisposition l .late s)
          ∧ (due → l.state = .queued → testDeadline q s
              = lateDisposition l .late { s with eval := { s.eval with queue := s.eval.queue.filter fun x => x ≠ q } })
          ∧ (due → l.state = .opened → ∀ u, u = closeLetter l (lengthSeen s.scan) true true s →
              ∃ c, findLetter u q = some c
                ∧ testDeadline q s = lateDisposition c .late { u with track := { u.track with trailExpected := true } }))
        ∧ (l.state ≠ .routed ∨ l.window = none → testWindowEnd q s = s)
        ∧ (∀ w, l.state = .routed → l.window = some w →
          ((s.position.belt - w.stop).toNat < 8388608 → testWindowEnd q s = retire l .lost s)
          ∧ (8388608 ≤ (s.position.belt - w.stop).toNat → testWindowEnd q s = s)))
    ∧ ∀ (l : Letter) (d : Disposition) (s t : State), l.disposition = some d → t = retire l .lost s →
      t.tally.live[tallyOfRetirement .lost] = s.tally.live[tallyOfRetirement .lost] + 1
      ∧ (∀ i : Fin 64, i ≠ tallyOfRetirement .lost → t.tally.live[i] = s.tally.live[i])
      ∧ flagSet t .lost = true
      ∧ (∀ n : Fin 8, t.stackers[n] = if n = d.stacker then
            ⟨s.stackers[n].inFlight - 1, s.stackers[n].arrived, lampConditionOf t n⟩ else s.stackers[n])
      ∧ (∀ c u, c = count (tallyOfRetirement .lost) s →
        u = recomputeLamp d.stacker { setFlag .lost c with stackers := s.stackers.set d.stacker.val {
          s.stackers[d.stacker] with inFlight := s.stackers[d.stacker].inFlight - 1 } d.stacker.isLt } →
        t.tally = c.tally ∧ t.stackers = u.stackers ∧ restOfRetirement l s u t)
      ∧ changesOnly [.track, .eval, .routing, .heads, .stackers, .tally, .cond, .ring] s t

/-- An advance removes plan entries from the head while the belt is at or past their retire positions, and stops at the first that is
not reached (R91). It takes the bookings of each head from the head of its list while their print ends are reached: the letter's
print becomes DONE and PRINTED is counted (R102). When that empties the list of a head in PURGE-WAIT, its PURGE order is issued,
its purge timer starts and it is PURGING (R110). The order of the heads is the model's choice (notes/assumptions/14.md). -/
def Obligations.PlanRetirement : Prop :=
  (∀ s : State, ∃ gone rest, s.routing.plan = gone ++ rest
    ∧ (∀ e ∈ gone, atOrPast s.position.belt e.retire = true)
    ∧ (∀ e, rest.head? = some e → atOrPast s.position.belt e.retire = false)
    ∧ retirePlan s = { s with routing := { s.routing with plan := rest } })
    ∧ (∀ s : State, expireBookings s = expireHead 3 (expireHead 2 (expireHead 1 (expireHead 0 s))))
    ∧ ∀ (h : Fin 4) (s : State) (gone rest : List Booking), s.heads[h].bookings = gone ++ rest →
      (∀ b ∈ gone, (s.position.belt - b.stop).toNat < 8388608) →
      (∀ b, rest.head? = some b → 8388608 ≤ (s.position.belt - b.stop).toNat) →
      (gone = [] → expireHead h s = s)
      ∧ (gone ≠ [] → ∃ u : State,
        u.heads = s.heads.set h.val { s.heads[h] with bookings := rest } h.isLt
        ∧ u.track = { s.track with
            letters := s.track.letters.map fun l =>
              if gone.any (fun b => b.tag = l.seq) then { l with print := l.print.map fun p => { p with status := .done } }
              else l }
        ∧ u.tally.live[tallyPrinted] = s.tally.live[tallyPrinted] + BitVec.ofNat 32 gone.length
        ∧ (∀ i : Fin 64, i ≠ tallyPrinted → u.tally.live[i] = s.tally.live[i])
        ∧ (s.tally.live[tallyPrinted].toNat + gone.length < 4294967296 → u.cond = s.cond ∧ u.ring = s.ring)
        ∧ changesOnly [.heads, .track, .tally, .cond, .ring] s u
        ∧ (s.heads[h].state ≠ .purgeWait ∨ rest ≠ [] → expireHead h s = u)
        ∧ (s.heads[h].state = .purgeWait → rest = [] → ∀ d,
          d = (if isCommitted s.store .geometry then (geometryOf s.store.tables).purgeTimeout else 1000) →
          ∀ v k, v = issueOrder (.purge h) ⟨headStation s.store.tables h, .purge h⟩ u →
          k = { s.heads[h] with bookings := [], purge := some ⟨d, d⟩, state := .purging } →
          expireHead h s = { v with heads := s.heads.set h.val k h.isLt }))

/-- A LEAD edge in RUNNING or DRAINING first closes an OPEN letter as EDGELOST and queues it (R28); with room in the track it then
admits a letter with the first number from the counter that no letter holds and with its deadline the deadline distance beyond its
leading position (R11, R18, R29, R47), and with 32 letters it is refused (R30). In STOPPED and SERVICE it only counts UNTRACKED and sets the trail-expected indicator (R31). -/
def Obligations.LeadEdgeTaken : Prop :=
  ∀ (dest src : Byte) (f : Pos) (s : State), addressedToPart dest src s → ∀ u, u = takePosition f s →
    (u.track.mode = .stopped ∨ u.track.mode = .service →
      exec (.leadEdge dest src f) s = .next { count tallyUntracked u with track := { u.track with trailExpected := true } })
    ∧ (u.track.mode = .running ∨ u.track.mode = .draining →
      ∀ v, v = (match openLetter u with
        | none => u
        | some l => queueLetter l.seq (closeLetter l (lengthSeen u.scan) true true u)) →
      (32 ≤ v.track.letters.length →
        exec (.leadEdge dest src f) s
          = .next { sendHalt .trackfull (setFlag .trackfull (count tallyUntracked v)) with
              track := { v.track with trailExpected := true } })
      ∧ (v.track.letters.length < 32 → ∃ t l,
        exec (.leadEdge dest src f) s = .next t
        ∧ t.track = { v.track with letters := v.track.letters ++ [l], seqCounter := l.seq + 1, trailExpected := false }
        ∧ l = { seq := l.seq, leading := f, deadline := l.deadline, length := none,
                flags := ⟨false, false, false, l.flags.crowded, false, false, false⟩, state := .opened, windows := none,
                verdict := none, disposition := none, print := none, window := none }
        ∧ (∀ d, v.position.lane = some d → l.deadline = f + BitVec.ofNat 24 d.deadline)
        ∧ (∀ k ∈ v.track.letters, k.seq ≠ l.seq)
        ∧ (∀ q : Seq, (q - v.track.seqCounter).toNat < (l.seq - v.track.seqCounter).toNat →
            ∃ k ∈ v.track.letters, k.seq = q)
        ∧ (l.flags.crowded = true ↔ ∃ p, v.track.lastTrailing = some p
            ∧ (if (f - p).toNat < 8388608 then (f - p).toNat else 0) < (geometryOf v.store.tables).minGap)
        ∧ (∀ e : WindowSum, e = ⟨⟨0, 0, 0⟩, ⟨0, 0, 0⟩, none⟩ → t.scan.context = some ⟨l.seq, f, none, 0, 0, e, e, e, e⟩)
        ∧ t.scan.storeF = [] ∧ t.scan.storeR = []
        ∧ t.scan.backgroundF = v.scan.backgroundF ∧ t.scan.backgroundR = v.scan.backgroundR
        ∧ t.tally.live[tallyEntered] = v.tally.live[tallyEntered] + 1
        ∧ (∀ w, w = count tallyEntered v → t.tally = w.tally ∧ t.cond = w.cond ∧ t.ring = w.ring)
        ∧ changesOnly [.track, .scan, .tally, .cond, .ring] v t))

/-- A TRAIL edge closes the OPEN letter with its offset as length, with 4,095 beyond that, or with 0 and EDGEFAULT when it lies behind
the letter, and queues the letter (R32). With no letter OPEN it is absorbed when it is expected, and counted as unmatched otherwise
(R33). A queued letter joins the tail of the evaluation queue; an IDLE unit takes it up in the same event (R59, R60). -/
def Obligations.TrailEdgeTaken : Prop :=
  (∀ (dest src : Byte) (x : Pos) (s : State), addressedToPart dest src s → ∀ u, u = takePosition x s →
    ∀ running : Bool, running = decide (u.track.mode = .running ∨ u.track.mode = .draining) →
    (∀ l, openLetter u = some l → ∀ d, d = (x.toNat + 16777216 - l.leading.toNat) % 16777216 →
      exec (.trailEdge dest src x) s
        = .next (queueLetter l.seq
            (closeLetter l (if 8388608 ≤ d then 0 else min d 4095) false (decide (8388608 ≤ d)) u)))
    ∧ (openLetter u = none → u.track.trailExpected = true →
      exec (.trailEdge dest src x) s = .next { u with track := { u.track with
        trailExpected := false
        lastTrailing := if running then some x else u.track.lastTrailing } })
    ∧ (openLetter u = none → u.track.trailExpected = false →
      ∀ v, v = { u with track := { u.track with unmatched := satInc16 u.track.unmatched } } →
      exec (.trailEdge dest src x) s = .next (if running then setFlag .edgefault v else v)))
    ∧ ∀ (q : Seq) (s : State) (marked : LetterState → LetterTrack),
      (∀ st, marked st = { s.track with
        letters := s.track.letters.map fun l => if l.seq = q then { l with state := st } else l }) →
      (s.eval.busy = true → queueLetter q s = { s with
        track := marked .queued, eval := { s.eval with queue := s.eval.queue ++ [q] } })
      ∧ (s.eval.busy = false → s.eval.queue = [] → queueLetter q s = { s with
        track := marked .evaluating, eval := ⟨true, some q, []⟩ })

/-- A close records the length, the windows and the flags LONG, SHORT, EDGELOST, SHORTSCAN and SCANGAP in the letter's record and
in no other, empties the scan context and moves the last trailing position to the letter's end (R27, R48, R49, R54). The windows
have the ranges of R49. From 4W on the leading windows are the context's running sums; below 4W they are summed from the line
stores, as the trailing windows always are (R48). Q is formed from the final strengths (R52). A letter that no TRAIL edge closes has
the length that the heads saw (R27). The notice of EDGEFAULT comes before that of SCANGAP (DEDUCED, notes/assumptions/28.md). -/
def Obligations.CloseRecordsLetter : Prop :=
  (∀ (l : Letter) (L : Nat) (edgelost fault : Bool) (c : ScanContext) (s : State), s.scan.context = some c →
    ∀ g k t, g = geometryOf s.store.tables → k = scansetOf s.store.tables → t = closeLetter l L edgelost fault s →
    t.track.letters = s.track.letters.map (fun r => if r.seq = l.seq then
        { r with
          length := some L
          windows := some (formWindows k L c s.scan)
          flags := { r.flags with
            long := r.flags.long || decide (g.maxLength < L)
            short := r.flags.short || decide (L < g.minLength)
            edgelost := r.flags.edgelost || edgelost
            scangap := r.flags.scangap
              || decide (c.countF.toNat + k.gap < L / 4 ∨ c.countR.toNat + k.gap < L / 4)
            shortscan := r.flags.shortscan || decide (L < 4 * k.window) } }
      else r)
    ∧ t.track.lastTrailing = some (l.leading + BitVec.ofNat 24 L)
    ∧ t.track.mode = s.track.mode ∧ t.track.seqCounter = s.track.seqCounter
    ∧ t.track.trailExpected = s.track.trailExpected ∧ t.track.unmatched = s.track.unmatched
    ∧ t.scan = { s.scan with context := none, storeF := [], storeR := [] }
    ∧ (fault = true → flagSet t .edgefault = true)
    ∧ (c.countF.toNat + k.gap < L / 4 ∨ c.countR.toNat + k.gap < L / 4 → flagSet t .scangap = true)
    ∧ (∀ u v, u = (if fault then setFlag .edgefault s else s) →
      v = (if c.countF.toNat + k.gap < L / 4 ∨ c.countR.toNat + k.gap < L / 4 then setFlag .scangap u else u) →
      t.cond = v.cond ∧ t.ring = v.ring)
    ∧ changesOnly [.track, .scan, .cond, .ring] s t)
    ∧ (∀ (k : Scanset) (L : Nat) (c : ScanContext) (u : ScanUnit) (ws : Vector WindowRecord 8), ws = formWindows k L c u →
      ∀ summed : List LinePartial → Bool → Nat → Nat → WindowSum,
      (∀ store top first n, summed store top first n
        = (store.filter fun p => decide (first ≤ p.offset ∧ p.offset < first + n)).foldl
            (fun w p => addHalf w p.offset (if top then p.upper else p.lower)) ⟨⟨0, 0, 0⟩, ⟨0, 0, 0⟩, none⟩) →
      (∀ (corner : Corner) (running : WindowSum) (store : List LinePartial) (top : Bool),
        (corner, running, store, top) ∈ ([(.ftl, c.ftl, u.storeF, true), (.fbl, c.fbl, u.storeF, false),
          (.rtl, c.rtl, u.storeR, true), (.rbl, c.rbl, u.storeR, false)] :
            List (Corner × WindowSum × List LinePartial × Bool)) →
        (4 * k.window ≤ L → ws[cornerNumber corner].range = ⟨0, 4 * k.window - 1⟩ ∧ ws[cornerNumber corner].sum = running)
        ∧ (L < 4 * k.window → ws[cornerNumber corner].range = ⟨0, L - 1⟩
          ∧ ws[cornerNumber corner].sum = summed store top 0 L))
      ∧ (∀ (corner : Corner) (store : List LinePartial) (top : Bool),
        (corner, store, top) ∈ ([(.ftt, u.storeF, true), (.fbt, u.storeF, false), (.rtt, u.storeR, true),
          (.rbt, u.storeR, false)] : List (Corner × List LinePartial × Bool)) →
        (4 * k.window ≤ L → ws[cornerNumber corner].range = ⟨L - 4 * k.window, L - 1⟩
          ∧ ws[cornerNumber corner].sum = summed store top (L - 4 * k.window) (4 * k.window))
        ∧ (L < 4 * k.window → ws[cornerNumber corner].range = ⟨0, L - 1⟩
          ∧ ws[cornerNumber corner].sum = summed store top 0 L))
      ∧ ∀ (n : Fin 8) (total : Nat), total = ws[n].sum.strength.glow + ws[n].sum.strength.fluor →
        ws[n].q = if total = 0 then 0 else 255 * ws[n].sum.strength.glow / total)
    ∧ ∀ (u : ScanUnit) (c : ScanContext), u.context = some c →
      (c.greatest = none → lengthSeen u = 0) ∧ ∀ o, c.greatest = some o → lengthSeen u = min 4095 (o + 1)

/-- A LINE is a BACKGROUND line without a scan context or behind the context's leading position, and updates the 24 bg8 values of its
head; it is ASSIGNED where it has an offset in the OPEN letter, and then is counted, stored and added to the leading windows of its
face; beyond that it is IGNORED (R41, R42, R44 to R46). Its partial holds, for each half, the sums of the excesses, the numbers of
hits and the mark over that half's cell set (R43). A half added to a window raises strengths up to 16,777,215 and areas up to 768,
and the span takes in the offset of a marked half (R45, R50, R51). -/
def Obligations.LinesClassed : Prop :=
  (∀ (dest src : Byte) (x : Pos) (samples : Vector (BitVec 16) 24) (s : State), addressedToPart dest src s →
    ∀ u k, u = takePosition x s → k = scansetOf u.store.tables →
    ((u.scan.context = none ∨ ∃ c, u.scan.context = some c ∧ atOrPast x c.leading = false) →
      (∃ bg : Vector Nat 24,
        exec (.line dest src .f x samples) s = .next { u with scan := { u.scan with backgroundF := bg } }
        ∧ ∀ i : Fin 24, bg[i] = u.scan.backgroundF[i] - u.scan.backgroundF[i] / 8 + samples[i].toNat % 1024)
      ∧ (∃ bg : Vector Nat 24,
        exec (.line dest src .r x samples) s = .next { u with scan := { u.scan with backgroundR := bg } }
        ∧ ∀ i : Fin 24, bg[i] = u.scan.backgroundR[i] - u.scan.backgroundR[i] / 8 + samples[i].toNat % 1024))
    ∧ ∀ c, u.scan.context = some c → atOrPast x c.leading = true →
      (4095 < distance c.leading x → ∀ h, exec (.line dest src h x samples) s = .next u)
      ∧ (distance c.leading x ≤ 4095 →
        (∀ p, p = linePartial k u.scan.backgroundF samples (distance c.leading x) →
          ∃ c' : ScanContext, exec (.line dest src .f x samples) s = .next { u with scan := { u.scan with
            context := some c'
            storeF := (if 96 ≤ u.scan.storeF.length then u.scan.storeF.drop 1 else u.scan.storeF) ++ [p] } }
          ∧ c' = { c with
              greatest := some (max (c.greatest.getD 0) p.offset)
              countF := satInc16 c.countF
              ftl := if p.offset ≤ 4 * k.window - 1 ∧ 0 < k.window then addHalf c.ftl p.offset p.upper else c.ftl
              fbl := if p.offset ≤ 4 * k.window - 1 ∧ 0 < k.window then addHalf c.fbl p.offset p.lower else c.fbl })
        ∧ (∀ p, p = linePartial k u.scan.backgroundR samples (distance c.leading x) →
          ∃ c' : ScanContext, exec (.line dest src .r x samples) s = .next { u with scan := { u.scan with
            context := some c'
            storeR := (if 96 ≤ u.scan.storeR.length then u.scan.storeR.drop 1 else u.scan.storeR) ++ [p] } }
          ∧ c' = { c with
              greatest := some (max (c.greatest.getD 0) p.offset)
              countR := satInc16 c.countR
              rtl := if p.offset ≤ 4 * k.window - 1 ∧ 0 < k.window then addHalf c.rtl p.offset p.upper else c.rtl
              rbl := if p.offset ≤ 4 * k.window - 1 ∧ 0 < k.window then addHalf c.rbl p.offset p.lower else c.rbl })))
    ∧ (∀ (k : Scanset) (background : Vector Nat 24) (samples : Vector (BitVec 16) 24) (o : Nat) (p : LinePartial),
      p = linePartial k background samples o →
      ∀ excess : Fin 8 → Fin 3 → Nat,
      (∀ c b, excess c b = samples[3 * c.val + b.val].toNat % 1024 - background[3 * c.val + b.val] / 8) →
      p.offset = o
      ∧ ∀ (set : Nat) (half : HalfPartial), (set, half) ∈ ([(k.upper, p.upper), (k.lower, p.lower)] : List (Nat × HalfPartial)) →
        ∀ cells : List (Fin 8), cells = (List.finRange 8).filter (fun c => set.testBit c.val) →
        half.excess = ⟨(cells.map fun c => excess c 0).sum, (cells.map fun c => excess c 1).sum,
          (cells.map fun c => excess c 2).sum⟩
        ∧ half.hits = ⟨(cells.filter fun c => k.hit.glow ≤ excess c 0).length,
          (cells.filter fun c => k.hit.fluor ≤ excess c 1).length, (cells.filter fun c => k.hit.red ≤ excess c 2).length⟩
        ∧ (half.mark = true ↔
          ∃ c ∈ cells, k.hit.glow ≤ excess c 0 ∨ k.hit.fluor ≤ excess c 1 ∨ k.hit.red ≤ excess c 2))
    ∧ ∀ (w : WindowSum) (o : Nat) (half : HalfPartial) (w' : WindowSum), w' = addHalf w o half →
      w'.strength = ⟨min 16777215 (w.strength.glow + half.excess.glow), min 16777215 (w.strength.fluor + half.excess.fluor),
        min 16777215 (w.strength.red + half.excess.red)⟩
      ∧ w'.area = ⟨min 768 (w.area.glow + half.hits.glow), min 768 (w.area.fluor + half.hits.fluor),
        min 768 (w.area.red + half.hits.red)⟩
      ∧ (half.mark = false → w'.span = w.span)
      ∧ (half.mark = true → w.span = none → w'.span = some ⟨o, o⟩)
      ∧ (half.mark = true → ∀ x, w.span = some x → w'.span = some ⟨min x.first o, max x.last o⟩)

/-! ## Evaluation and routing -/

/-- A window's mark is the first signature entry it matches (R66, R67). A marked facing corner decides before any odd one; in the
deciding stage the lowest signature index wins, and among equals the one greatest area, or else the verdict is AMBIGUOUS; with no
marked window it is NONE. MULTI is asked for by two or more candidates (R68 to R71). -/
def Obligations.VerdictChosen : Prop :=
  facingCorners = [.ftl, .fbt, .rtt, .rbl] ∧ oddCorners = [.ftt, .fbl, .rtl, .rbt]
    ∧ (∀ b : Bands, bandOf b 0 = b.glow ∧ bandOf b 1 = b.fluor ∧ bandOf b 2 = b.red)
    ∧ (∀ ts i, entryInForce ts i = signatureEntry (tableRow ts .signature i))
    ∧ (∀ (ts : Tables) (w : WindowRecord) (i : Nat),
    (markOf ts w = some i ↔ i < 16 ∧ matchesEntry w (entryInForce ts i) = true
      ∧ ∀ j, j < i → matchesEntry w (entryInForce ts j) = false)
    ∧ (markOf ts w = none ↔ ∀ j, j < 16 → matchesEntry w (entryInForce ts j) = false)
    ∧ (matchesEntry w (entryInForce ts i) = true ↔
      (entryInForce ts i).enabled = true
      ∧ (∀ a, a = (match (entryInForce ts i).band with
          | 0 => w.sum.area.glow
          | 1 => w.sum.area.fluor
          | _ => w.sum.area.red) → (entryInForce ts i).areaMin ≤ a ∧ a ≤ (entryInForce ts i).areaMax)
      ∧ (entryInForce ts i).strengthMin.glow ≤ w.sum.strength.glow
      ∧ (entryInForce ts i).strengthMin.fluor ≤ w.sum.strength.fluor
      ∧ (entryInForce ts i).strengthMin.red ≤ w.sum.strength.red
      ∧ (entryInForce ts i).qLow ≤ w.q ∧ w.q ≤ (entryInForce ts i).qHigh))
    ∧ (∀ (ts : Tables) (ws : Vector WindowRecord 8) (v : Verdict) (multi : Bool), verdictOf ts ws = (v, multi) →
    ∀ (mark : Corner → Option Nat), (∀ c, mark c = markOf ts ws[cornerNumber c]) →
    ∀ stage : List Corner, stage = (if ∃ c ∈ facingCorners, (mark c).isSome = true then facingCorners else oddCorners) →
    ∀ area : Corner → Nat, (∀ c, area c
      = bandOf ws[cornerNumber c].sum.area (entryInForce ts ((mark c).getD 0)).band) →
    ((∀ c ∈ stage, mark c = none) → v = ⟨.none, none, 0, none, none⟩ ∧ multi = false)
    ∧ (∀ c, v.corner = some c → c ∈ stage ∧ v.kind = (if stage = facingCorners then .faced else .odd)
        ∧ v.signature = mark c ∧ (∃ i, mark c = some i ∧ v.markKind = (entryInForce ts i).kind
          ∧ (∀ d ∈ stage, ∀ j, mark d = some j → i ≤ j)
          ∧ ∀ d ∈ stage, d ≠ c → mark d = some i → area d < area c)
        ∧ v.span = ws[cornerNumber c].sum.span)
    ∧ ((∃ c ∈ stage, (mark c).isSome = true) → v.corner = none →
        v.kind = .ambiguous ∧ v.span = none ∧ multi = true
        ∧ ∃ i, v.signature = some i ∧ v.markKind = (entryInForce ts i).kind
          ∧ (∀ d ∈ stage, ∀ j, mark d = some j → i ≤ j)
          ∧ ∃ c ∈ stage, ∃ d ∈ stage, c ≠ d ∧ mark c = some i ∧ mark d = some i ∧ area c = area d
            ∧ ∀ e ∈ stage, mark e = some i → area e ≤ area c)
    ∧ (multi = true ↔ ∃ c ∈ stage, ∃ d ∈ stage, c ≠ d ∧ (mark c).isSome = true ∧ (mark d).isSome = true))

/-- The completion of an evaluation. With its subject absent it is discarded: the unit becomes IDLE and takes up the next queued letter,
and nothing else happens (R62). With a subject present the verdict, MULTI and the mark tally are recorded; a letter declared late
meanwhile keeps its disposition, and one still EVALUATING goes to the routing decision (R61, R71, R73). -/
def Obligations.EvaluationCompletes : Prop :=
  (∀ u : State, (u.eval.queue = [] → releaseSubject u = { u with eval := ⟨false, none, []⟩ })
    ∧ ∀ q rest, u.eval.queue = q :: rest → releaseSubject u = { u with
        eval := ⟨true, some q, rest⟩
        track := { u.track with
          letters := u.track.letters.map fun l => if l.seq = q then { l with state := .evaluating } else l } })
    ∧ ∀ s : State, s.eval.busy = true →
    (s.eval.subject = none → s.eval.queue = [] →
      exec .evaluationCompletion s = .next { s with eval := ⟨false, none, []⟩ })
    ∧ (∀ q rest, s.eval.subject = none → s.eval.queue = q :: rest →
      exec .evaluationCompletion s = .next { s with
        eval := ⟨true, some q, rest⟩
        track := { s.track with
          letters := s.track.letters.map fun l => if l.seq = q then { l with state := .evaluating } else l } })
    ∧ (∀ q l ws v multi, s.eval.subject = some q → findLetter s q = some l → l.windows = some ws →
      verdictOf s.store.tables ws = (v, multi) →
      ∀ u, u = count (tallyOfKind v.markKind) { s with track := { s.track with
          letters := s.track.letters.map fun r =>
            if r.seq = q then { r with verdict := some v, flags := { r.flags with multi := r.flags.multi || multi } }
            else r } } →
      (l.state = .routed → exec .evaluationCompletion s = .next (releaseSubject u))
      ∧ (l.state = .evaluating → ∃ l', findLetter u q = some l' ∧ l'.verdict = some v ∧ l'.windows = l.windows
        ∧ exec .evaluationCompletion s = .next (releaseSubject (routingDecision l' v u))))

/-- The gate check: a letter follows the path in effect; switches an empty plan at its leading position + D_gate − L_gate; switches
behind the last entry at that entry's trailing position + D_gate when the entry is not EDGELOST-marked and the gap reaches S_gate; and
is FORCED otherwise (R75, R82, R83). Before it the decision takes the first routing row that the letter matches (R78, R81); after it
a row request takes the primary stacker or the alternate, where it is the path's residue stacker or lies on the path, is enabled
and has room, and neither otherwise (R132). -/
def Obligations.GateCheckCases : Prop :=
  (∀ (g : Geometry) (r : RoutingUnit) (x : Pos) (p : Path),
    (r.plan = [] →
      pathInEffect r = r.gatePath
      ∧ (p = r.gatePath → gateCheck g r x p = .follow)
      ∧ (p ≠ r.gatePath → gateCheck g r x p = .switch (x + BitVec.ofNat 24 (g.dGate - g.lGate))))
    ∧ ∀ plan j, r.plan = plan ++ [j] →
      pathInEffect r = j.path
      ∧ (p = j.path → gateCheck g r x p = .follow)
      ∧ (p ≠ j.path → ∀ gap, gap = (if (x - j.trailing).toNat < 8388608 then (x - j.trailing).toNat else 0) →
        (j.edgelost = false → g.sGate ≤ gap →
          gateCheck g r x p = .switch (j.trailing + BitVec.ofNat 24 g.dGate))
        ∧ (j.edgelost = true ∨ gap < g.sGate → gateCheck g r x p = .forced)))
    ∧ (∀ (l : Letter) (v : Verdict) (L : Nat) (row : Row) (r : RoutingRow), l.length = some L → r = routingRow row →
      ∀ carried : List Bool, carried = [l.flags.long, l.flags.short, l.flags.edgelost, l.flags.crowded, l.flags.scangap,
        l.flags.shortscan, l.flags.multi] →
      (matchesRow l v r = true ↔
        r.enabled = true
        ∧ r.verdicts.testBit (([.faced, .odd, .none, .ambiguous] : List VerdictKind).idxOf v.kind) = true
        ∧ (∀ c, v.corner = some c →
          r.corners.testBit (([.ftl, .ftt, .fbl, .fbt, .rtl, .rtt, .rbl, .rbt] : List Corner).idxOf c) = true)
        ∧ (v.corner = none → ∀ n, n < 8 → r.corners.testBit n = true)
        ∧ r.kinds.testBit v.markKind = true
        ∧ (∀ i, i < 7 → r.required.getLsbD i = true → carried[i]? = some true)
        ∧ (∀ i, i < 7 → r.forbidden.getLsbD i = true → carried[i]? = some false)
        ∧ r.lengthMin ≤ L ∧ L ≤ r.lengthMax))
    ∧ (∀ (ts : Tables) (l : Letter) (v : Verdict) (fits : Nat → Bool),
      (∀ i, fits i = matchesRow l v (routingRow (tableRow ts .routing i))) →
      (∀ i, selectRow ts l v = some i ↔ i < 48 ∧ fits i = true ∧ ∀ j, j < i → fits j = false)
      ∧ (selectRow ts l v = none ↔ ∀ j, j < 48 → fits j = false))
    ∧ ∀ (s : State) (p : Path) (primary : Fin 8) (alternate : Option (Fin 8)) (takes : Fin 8 → Prop),
      (∀ n, takes n ↔ n = (match p with
          | .straight => 0
          | .turn => 4)
        ∨ (n.val < 4 ↔ p = .straight) ∧ 0 < (stackerInForce s n).capacity
          ∧ s.stackers[n].inFlight + s.stackers[n].arrived.toNat < (stackerInForce s n).capacity) →
      (takes primary → rowRequest s p primary alternate = some primary)
      ∧ (∀ a, alternate = some a → ¬takes primary → takes a → rowRequest s p primary alternate = some a)
      ∧ (¬takes primary → (∀ a, alternate = some a → ¬takes a) → rowRequest s p primary alternate = none)

/-- A booking request is accepted exactly when it passes the eight tests (R98): a valid pattern, a head that the verdict's corner reaches
on the path, a VALID clock, a placement that is not SHORT, a READY head with fewer than 4 bookings, a print start at or past the
last booking's occupancy end, and a lead of at least L_print from the belt. The placement is clipped to the letter's edges (R96, R99), and the print start lies the path's cancel distance of the formed lane distances beyond it (R11, R100).
The mark extent is the verdict's span, or without a span the range of the window at the verdict's corner (R99). -/
def Obligations.BookingTests : Prop :=
  (∀ (l : Letter) (v : Verdict) (c : Corner),
    (∀ x, v.span = some x → markExtent l v c = x)
    ∧ ∀ ws, v.span = none → l.windows = some ws → ∀ n : Fin 8,
      n.val = ([.ftl, .ftt, .fbl, .fbt, .rtl, .rtt, .rbl, .rbt] : List Corner).idxOf c → markExtent l v c = ws[n].range)
    ∧ ∀ (s : State) (l : Letter) (v : Verdict) (p : Path) (pat : Fin 8) (a : Accepted),
    ∀ r : PatternRow, r = patternRow (tableRow s.store.tables .pattern pat.val) →
    (∀ d, s.position.lane = some d → cancelDistance s .straight = d.cancelStraight ∧ cancelDistance s .turn = d.cancelTurn)
    ∧ (requestBooking s l v p pat = some a ↔
      (16 ≤ r.least ∧ r.least ≤ 1023 ∧ r.least ≤ r.pre + r.post + r.postmark + 1)
      ∧ v.kind = .faced
      ∧ (∃ c : Corner, v.corner = some c
        ∧ (c, p, a.head) ∈ ([(.ftl, .straight, 0), (.fbt, .straight, 1), (.rbl, .turn, 2), (.rtt, .turn, 3)] :
            List (Corner × Path × Fin 4))
        ∧ ∃ start stop : Int,
          start = max (if c = .ftl ∨ c = .rbl then ((markExtent l v c).first : Int) - r.pre
              else ((markExtent l v c).first : Int) - r.post - r.postmark) r.edge
          ∧ stop = min (if c = .ftl ∨ c = .rbl then ((markExtent l v c).last : Int) + r.post + r.postmark
              else ((markExtent l v c).last : Int) + r.pre) (((l.length.getD 0 : Nat) : Int) - r.edge)
          ∧ (r.least : Int) ≤ stop - start
          ∧ (a.length : Int) = stop - start
          ∧ a.start = l.leading + BitVec.ofNat 24 start.toNat + BitVec.ofNat 24 (cancelDistance s p))
      ∧ s.clock.valid = true
      ∧ s.heads[a.head].state = .ready
      ∧ s.heads[a.head].bookings.length < 4
      ∧ (∀ b, s.heads[a.head].bookings.getLast? = some b → (a.start - b.occupied).toNat < 8388608)
      ∧ (a.start - s.position.belt).toNat < 8388608
      ∧ (geometryOf s.store.tables).lPrint ≤ (a.start - s.position.belt).toNat)

/-- A late disposition: the path in effect, its residue stacker, the cause, no row, no print and no order of its own; the letter is
ROUTED, its window formed, a plan entry appended, LATE counted and flagged, the stacker's in-flight count raised and its lamp
condition recomputed (R88, R90, R131, R133). Flags and ring port change by that recomputation, with its LAMP order, and by the
notices of TALLYWRAP and LATE alone; behind a SENDING output the order queue gains the LAMP order of a changed condition, where it
has room, and nothing else. That the recomputation precedes the count and the flag is the model's reading (DEDUCED,
notes/assumptions/31.md), as is its own order (DEDUCED, notes/assumptions/13.md). A decision that finds fewer than 3 free places in the order queue gives one with cause NOROOM
(R80). An arrival window reaches the tolerance to both sides of the leading position plus the arrival distance (R133). -/
def Obligations.LateDispositionGiven : Prop :=
  (∀ (s : State) (ds : Vector StackerDistance 8) (n : Fin 8) (x : Pos), s.position.stackers = some ds →
    arrivalWindow s n x
      = ⟨x + BitVec.ofNat 24 ds[n].arrival - BitVec.ofNat 24 (stackerInForce s n).tolerance,
        x + BitVec.ofNat 24 ds[n].arrival + BitVec.ofNat 24 (stackerInForce s n).tolerance⟩)
    ∧ ∀ (l : Letter) (v : Verdict) (cause : ResidueCause) (s : State),
    (14 ≤ s.ring.orders.length → routingDecision l v s = lateDisposition l .noroom s)
    ∧ ∀ t p (n : Fin 8), t = lateDisposition l cause s → p = pathInEffect s.routing →
      n = (match p with
        | .straight => 0
        | .turn => 4) →
      t.track = { s.track with letters := s.track.letters.map fun r => if r.seq = l.seq then
          { r with
            disposition := some ⟨p, n, none, some cause⟩, print := none, window := some (arrivalWindow s n l.leading)
            state := .routed }
          else r }
      ∧ (∃ e, t.routing.plan = (if 32 ≤ s.routing.plan.length then s.routing.plan.drop 1 else s.routing.plan) ++ [e]
        ∧ e.seq = l.seq ∧ e.path = p ∧ e.leading = l.leading
        ∧ e.trailing = l.leading + BitVec.ofNat 24 (l.length.getD 0)
        ∧ e.retire = e.trailing + BitVec.ofNat 24 (geometryOf s.store.tables).dGate ∧ e.edgelost = l.flags.edgelost)
      ∧ t.routing.gatePath = s.routing.gatePath
      ∧ t.stackers[n].inFlight = s.stackers[n].inFlight + 1 ∧ t.stackers[n].arrived = s.stackers[n].arrived
      ∧ t.stackers[n].lamp = lampConditionOf t n
      ∧ (∀ j : Fin 8, j ≠ n → t.stackers[j] = s.stackers[j])
      ∧ t.tally.live[tallyLate] = s.tally.live[tallyLate] + 1
      ∧ flagSet t .late = true
      ∧ (∀ u w, u = recomputeLamp n { s with stackers := s.stackers.set n.val {
            s.stackers[n] with inFlight := s.stackers[n].inFlight + 1 } n.isLt } →
        w = setFlag .late (count tallyLate u) →
        t.stackers = w.stackers ∧ t.tally = w.tally ∧ t.cond = w.cond ∧ t.ring = w.ring)
      ∧ (s.ring.sending.isSome = true → ∀ lamp, lamp = lampOrder s n t.stackers[n].lamp →
        ∀ same : Prop, same = (t.stackers[n].lamp = s.stackers[n].lamp) →
        t.ring.sending = s.ring.sending ∧ t.ring.forward = s.ring.forward
        ∧ (same → t.ring.orders = s.ring.orders ∧ t.ring.waiting = s.ring.waiting)
        ∧ (¬same → s.ring.orders.length < 16 →
          t.ring.orders = s.ring.orders ++ [lamp] ∧ t.ring.waiting = s.ring.waiting)
        ∧ (¬same → 16 ≤ s.ring.orders.length →
          t.ring.orders = s.ring.orders ∧ ∃ w ∈ t.ring.waiting, w = ⟨.lamp n, lamp⟩))
      ∧ changesOnly [.track, .routing, .stackers, .tally, .cond, .ring] s t

/-- A routing decision that finds 3 free places in the order queue makes its letter ROUTED with a disposition, an arrival window, a
plan entry on the disposition's path and a reservation at its stacker; a residue cause sends it to the path's residue stacker; a
print stands with status PLANNED and its booking in the head's list (R79, R84 to R86, R98). For a row in force that passed its
validation: the path is the row's, or the path in effect of a FORCED letter (R82); the first cause met is the one recorded, and
each phase that meets one counts its own tally and sets its own flag (R79, R81, R82, R84, R132); and the decision's orders join
the order queue as GATE (R87), PRINT with the postmark of this event (R103, R125) and STACK (R135), before the LAMP order of the
reservation (R133). An IDLE output sends at once the first frame that the decision gives it, the ALERT of FORCED or NOPRINT or
else the first order, and the other orders wait (R179): the grant at the joining is the model's reading (DEDUCED,
notes/assumptions/9.md). That the whole recomputation of the lamp, with its FULL flag and HALT, follows the orders is another
(DEDUCED, notes/assumptions/13.md). -/
def Obligations.DecisionCommits : Prop :=
  ∀ (l : Letter) (v : Verdict) (s : State), s.ring.orders.length ≤ 13 → findLetter s l.seq = some l →
    (s.track.letters.map Letter.seq).Nodup →
    ∃ (t : State) (d : Disposition) (pr : Option Print) (r : Letter), t = routingDecision l v s
      ∧ findLetter t l.seq = some r
      ∧ r = { l with
          disposition := some d, print := pr, window := some (arrivalWindow s d.stacker l.leading), state := .routed }
      ∧ (∀ k ∈ s.track.letters, k.seq ≠ l.seq → k ∈ t.track.letters)
      ∧ (d.cause.isSome = true → d.stacker = residueStacker d.path)
      ∧ d.row = selectRow s.store.tables l v
      ∧ (∃ e, t.routing.plan.getLast? = some e ∧ e.seq = l.seq ∧ e.path = d.path)
      ∧ pathInEffect t.routing = d.path
      ∧ t.stackers[d.stacker].inFlight = s.stackers[d.stacker].inFlight + 1
      ∧ (∀ j : Fin 8, j ≠ d.stacker → t.stackers[j].inFlight = s.stackers[j].inFlight)
      ∧ (∀ j : Fin 8, t.stackers[j].arrived = s.stackers[j].arrived)
      ∧ (∀ x, pr = some x → x.status = .planned ∧ ∃ b, t.heads[x.head].bookings = s.heads[x.head].bookings ++ [b]
          ∧ b.tag = l.seq ∧ b.start = x.start ∧ b.stop = x.start + BitVec.ofNat 24 x.length
          ∧ b.occupied = b.stop + BitVec.ofNat 24 (geometryOf s.store.tables).rHead)
      ∧ (pr = none → t.heads = s.heads)
      ∧ changesOnly [.track, .routing, .heads, .stackers, .tally, .cond, .ring] s t
      ∧ ∀ (row : Option RoutingRow) (p : Path) (pattern : Option (Fin 8)) (primary : Fin 8) (alternate : Option (Fin 8)),
        row = d.row.map (fun i => routingRow (tableRow s.store.tables .routing i)) →
        (row = none → p = .straight ∧ pattern = none ∧ primary = 0 ∧ alternate = none) →
        (∀ r, row = some r → r.path = (if p = .straight then 0 else 1) ∧ r.pattern = pattern.map Fin.val
          ∧ r.primary = primary.val ∧ r.alternate = alternate.map Fin.val ∧ ∀ k, r.tally = some k → k < 64) →
        ∀ g, g = gateCheck (geometryOf s.store.tables) s.routing l.leading p →
        ∀ wanted, wanted = (if g = .forced then none else pattern) →
        ∀ accepted, accepted = wanted.bind (fun pat => requestBooking s l v d.path pat) →
        ∀ refused, refused = decide (wanted.isSome = true ∧ accepted = none) →
        ∀ request, request = rowRequest s d.path primary alternate →
        d.path = (if g = .forced then pathInEffect s.routing else p)
        ∧ t.routing.gatePath = (match g with
          | .switch _ => p
          | _ => s.routing.gatePath)
        ∧ pr = accepted.bind (fun a => wanted.map fun pat => ⟨a.head, a.start, a.length, pat, .planned⟩)
        ∧ d.cause = (if row = none then some .unrouted else if g = .forced then some .forced
          else if refused then some .noprint else if request = none then some .full else none)
        ∧ (d.cause = none → request = some d.stacker)
        ∧ (∀ j : Fin 64, t.tally.live[j] = s.tally.live[j] + BitVec.ofNat 32
          ((if row = none ∧ j = tallyUnrouted then 1 else 0) + (if g = .forced ∧ j = tallyForced then 1 else 0)
            + (if refused ∧ j = tallyNoprint then 1 else 0) + (if d.cause = some .full ∧ j = tallyFulldivert then 1 else 0)
            + (if row.bind RoutingRow.tally = some j.val then 1 else 0)))
        ∧ (g = .forced → flagSet t .forced = true) ∧ (refused = true → flagSet t .noprint = true)
        ∧ ∀ date, date = (if 0 < cutoverHour s.store.tables ∧ cutoverHour s.store.tables ≤ s.clock.hour
            then nextDay (dateOf s.clock) else dateOf s.clock) →
          ∀ ds m L, s.position.stackers = some ds → m = (geometryOf s.store.tables).stackMargin → l.length = some L →
          ∀ orders : List OrderFrame, orders
            = (match g with
                | .switch x => [⟨gateStation s.store.tables, .gate p x⟩]
                | _ => [])
              ++ (match pr with
                | some x => [⟨headStation s.store.tables x.head, .print x.head l.seq x.start x.length x.pattern
                    (patternRow (tableRow s.store.tables .pattern x.pattern.val)).style date.day date.month date.year
                    s.clock.hour (officeNumber s.store.tables) (laneNumber s.store.tables)⟩]
                | none => [])
              ++ (if d.stacker = 0 ∨ d.stacker = 4 then []
                else [⟨officeStation s.store.tables (if d.stacker.val < 4 then 6 else 7), .stack d.stacker l.seq
                  (l.leading + BitVec.ofNat 24 ds[d.stacker].diverter - BitVec.ofNat 24 m)
                  (l.leading + BitVec.ofNat 24 L + BitVec.ofNat 24 ds[d.stacker].diverter + BitVec.ofNat 24 m)⟩]) →
          ∃ u, t = recomputeLamp d.stacker (orders.foldl (fun w o => joinOrder o w) u)
            ∧ ((∀ j : Fin 64, s.tally.live[j].toNat + 4 < 4294967296) →
              ∀ w, w = (if g = .forced then setFlag .forced s else if refused then setFlag .noprint s else s) →
              u.ring = w.ring ∧ u.cond = w.cond)
            ∧ ∀ lamp : List OrderFrame, lamp
              = (if t.stackers[d.stacker].lamp = s.stackers[d.stacker].lamp ∨ 16 ≤ (s.ring.orders ++ orders).length then []
                else [lampOrder s d.stacker t.stackers[d.stacker].lamp]) →
              (s.ring.sending.isSome = true →
                u.ring.orders = s.ring.orders ∧ u.ring.waiting = s.ring.waiting ∧ u.ring.sending = s.ring.sending
                ∧ t.ring.orders = s.ring.orders ++ orders ++ lamp ∧ t.ring.sending = s.ring.sending)
              ∧ (s.ring.sending = none → ringInvariant s.ring →
                (∀ f, u.ring.sending = some f → t.ring.orders = orders ++ lamp ∧ t.ring.sending = some f)
                ∧ (u.ring.sending = none → orders ++ lamp = [] → t.ring = u.ring)
                ∧ ∀ o rest, u.ring.sending = none → orders ++ lamp = o :: rest →
                  t.ring.sending = some (orderFrame s.ring.own o) ∧ t.ring.orders = rest)

/-- TRACK READ answers the lane mode, the number of letters, the counter, the unmatched count, which it sets to 0, the more indicator
and up to 3 letters from the first that follows or equals the starting number (R39). That the more indicator is clear where no
letter qualifies is the model's reading (DEDUCED, notes/assumptions/15.md). A letter's summary is the 25 bytes of R191, FFh in
every byte of an absent field. -/
def Obligations.TrackReadAnswers : Prop :=
  (∀ (dest src : Byte) (start : Option Seq) (s : State) (skipped selected : List Letter),
    s.track.letters = skipped ++ selected →
    (match start with
      | none => skipped = []
      | some q => (∀ l ∈ skipped, 32768 ≤ (l.seq - q).toNat)
          ∧ ∀ l, selected.head? = some l → (l.seq - q).toNat < 32768) →
    ∀ data, data = [modeCode s.track.mode, byteOf s.track.letters.length] ++ natBytes 2 s.track.seqCounter.toNat
        ++ natBytes 2 s.track.unmatched.toNat ++ [indicator (decide (3 < selected.length))]
        ++ (selected.take 3).flatMap letterData →
    servedAtOnce dest src (answerParts data).length s →
    exec (.trackRead dest src start) s
      = .next (joinWhole (station src) 0x15
          ⟨{ s with track := { s.track with unmatched := 0 } }, .ok, data⟩))
    ∧ ∀ low : Nat → Nat → List Byte, (∀ n w, low n w = (List.range n).map fun i => BitVec.ofNat 8 (w / 256 ^ i)) →
    ∀ l : Letter, ∃ flags : Byte,
      (∀ i, i < 7 → ([l.flags.long, l.flags.short, l.flags.edgelost, l.flags.crowded, l.flags.scangap, l.flags.shortscan,
        l.flags.multi] : List Bool)[i]? = some (flags.getLsbD i))
      ∧ letterData l = low 2 l.seq.toNat ++ low 3 l.leading.toNat
        ++ (match l.length with
          | none => [0xFF, 0xFF]
          | some n => low 2 n)
        ++ [BitVec.ofNat 8 (([.opened, .queued, .evaluating, .routed] : List LetterState).idxOf l.state), flags]
        ++ (match l.verdict with
          | none => [0xFF, 0xFF, 0, 0xFF]
          | some v => [BitVec.ofNat 8 (([.faced, .odd, .none, .ambiguous] : List VerdictKind).idxOf v.kind)]
            ++ (match v.corner with
              | none => [0xFF]
              | some c => [BitVec.ofNat 8 (([.ftl, .ftt, .fbl, .fbt, .rtl, .rtt, .rbl, .rbt] : List Corner).idxOf c)])
            ++ low 1 v.markKind
            ++ (match v.signature with
              | none => [0xFF]
              | some i => low 1 i))
        ++ (match l.disposition with
          | none => [0xFF, 0xFF, 0xFF, 0xFF]
          | some d => [if d.path = .straight then 0 else 1, BitVec.ofNat 8 d.stacker.val]
            ++ (match d.row with
              | none => [0xFF]
              | some i => low 1 i)
            ++ (match d.cause with
              | none => [0xFF]
              | some c => [BitVec.ofNat 8
                  (([.late, .noroom, .unrouted, .forced, .noprint, .full] : List ResidueCause).idxOf c)]))
        ++ (match l.print with
          | none => List.replicate 8 0xFF
          | some x => [BitVec.ofNat 8 x.head.val,
              BitVec.ofNat 8 (([.planned, .done, .failed] : List PrintStatus).idxOf x.status)]
            ++ low 3 x.start.toNat ++ low 2 x.length ++ [BitVec.ofNat 8 x.pattern.val])

/-! ## What every step keeps -/

/-- Every step keeps the ring port's capacities, its waiting places behind a full order queue, and the rule that an IDLE output has
nothing to send (R178 to R182). -/
def Obligations.RingInvariantKept : Prop :=
  ∀ s t : State, ringInvariant s.ring → step s = .next t → ringInvariant t.ring

/-- Every step keeps the calendar, CLOCKINVALID while the clock is INVALID, the limits of the background table and the line stores, the
agreement of each head's state, timers and list, the size of the plan, validated ROUTING rows and the fit of an open load. -/
def Obligations.UnitInvariantsKept : Prop :=
  ∀ s t : State, step s = .next t →
    (clockInvariant s.clock → clockInvariant t.clock)
    ∧ (clockFlagInvariant s → clockFlagInvariant t)
    ∧ (scanInvariant s.scan → scanInvariant t.scan)
    ∧ ((∀ h : Fin 4, headInvariant s.heads[h]) → ∀ h : Fin 4, headInvariant t.heads[h])
    ∧ (planInvariant s.routing → planInvariant t.routing)
    ∧ (routingRowsGood s → routingRowsGood t)
    ∧ (loadInvariant s.store → loadInvariant t.store)

/-- Every step keeps the track, the evaluation queue, the lane mode and the in-flight counts in agreement (R15, R18, R20, R58, R59,
R127, R130). -/
def Obligations.TrackInvariantKept : Prop :=
  ∀ s t : State, trackInvariant s → evalInvariant s → stackerInvariant s → modeInvariant s → step s = .next t →
    trackInvariant t ∧ evalInvariant t ∧ stackerInvariant t ∧ modeInvariant t

/-- Once the protection chance is used, no step but a power-on reset changes a row of a protected table, the protected set or the
chance; and no table loses its committed indicator (R157, R161, R167). -/
def Obligations.ProtectedRowsKept : Prop :=
  ∀ s t : State, step s = .next t → ¬atPowerOnReset s →
    (s.store.chanceUsed = true →
      t.store.chanceUsed = true ∧ t.store.protectedSet = s.store.protectedSet
      ∧ ∀ u i, isProtected s.store u = true → tableRow t.store.tables u i = tableRow s.store.tables u i)
    ∧ ∀ u, isCommitted s.store u = true → isCommitted t.store u = true

/-- ENTERED less DELIVERED, LOST and ABANDONED and less the letters in the track is the same after every step, modulo 2^32, but for a
power-on reset and a clearing freeze (R154). -/
def Obligations.LettersAccountedFor : Prop :=
  ∀ s t : State, step s = .next t → (s.track.letters.map Letter.seq).Nodup → routingRowsGood s →
    ¬atPowerOnReset s → (∀ a ∈ s.ring.intake, a.code ≠ 0x0C) →
    (∀ c f, s.pending.head? = some c → c.frameOf = some f → f.kind = 0x06 → f.payload.head? ≠ some 0x0C) →
    t.tally.live[(0 : Fin 64)] - t.tally.live[(1 : Fin 64)] - t.tally.live[(2 : Fin 64)] - t.tally.live[(3 : Fin 64)]
        - BitVec.ofNat 32 t.track.letters.length
      = s.tally.live[(0 : Fin 64)] - s.tally.live[(1 : Fin 64)] - s.tally.live[(2 : Fin 64)] - s.tally.live[(3 : Fin 64)]
        - BitVec.ofNat 32 s.track.letters.length

/-- Only a power-on reset writes the part's own station, and the belt position changes only to the position of the TICK, EDGE or LINE
at the front of the queue (R1, R3, R176). -/
def Obligations.StationAndBeltKept : Prop :=
  ∀ s t : State, step s = .next t → ¬atPowerOnReset s →
    t.ring.own = s.ring.own
    ∧ (t.position.belt = s.position.belt
      ∨ ∃ c f rest, s.pending = c :: rest ∧ c.frameOf = some f
        ∧ (messageOf f.kind f.payload = some (.tick t.position.belt)
          ∨ messageOf f.kind f.payload = some (.leadEdge t.position.belt)
          ∨ messageOf f.kind f.payload = some (.trailEdge t.position.belt)
          ∨ ∃ h w, messageOf f.kind f.payload = some (.line h t.position.belt w)))

/-! ## Numbers -/

/-- The conversion of a path distance to main counts (R10), which rounds halves up and never decreases as the distance grows; the
fields of the tables' rows by their bytes (R171 to R174), the distance forward of two positions (R2), and the bytes of a number, least
significant byte first (R189). -/
def Obligations.PathConversion : Prop :=
  (∀ (dGate scale d e : Nat),
    convert dGate scale .straight d = d
    ∧ (d < dGate → convert dGate scale .turn d = d)
    ∧ (dGate ≤ d → 4096 * (convert dGate scale .turn d - dGate) ≤ (d - dGate) * scale + 2048
        ∧ (d - dGate) * scale + 2048 < 4096 * (convert dGate scale .turn d - dGate) + 4096
        ∧ dGate ≤ convert dGate scale .turn d)
    ∧ (d ≤ e → ∀ p, convert dGate scale p d ≤ convert dGate scale p e))
    ∧ (∀ (row : Row) (b w : Nat → Nat), (∀ k, b k = ((rowBytes row).getD k 0).toNat) → (∀ k, w k = b k + 256 * b (k + 1)) →
      ∀ opt : Nat → Option Nat, (∀ k, opt k = if b k = 255 then none else some (b k)) →
      signatureEntry row
        = ⟨decide (b 0 % 2 = 1), b 0 / 2 % 4, b 0 / 16, w 1, w 3, ⟨w 5 + 65536 * b 7, w 8 + 65536 * b 10, w 11 + 65536 * b 13⟩,
          b 14, b 15⟩
      ∧ routingRow row
        = ⟨decide (b 0 % 2 = 1), b 0 / 2 % 16, b 1, w 2, BitVec.ofNat 8 (b 4 % 128), BitVec.ofNat 8 (b 5 % 128), w 6, w 8, b 10,
          opt 11, b 12, opt 13, opt 14⟩
      ∧ patternRow row = ⟨b 0, b 1, w 2, w 4, b 6, b 7⟩
      ∧ stackerRow row = ⟨w 0, w 2, w 4, w 6, w 8, opt 10, opt 11⟩)
    ∧ (∀ a b : Pos, distance a b = (b.toNat + 16777216 - a.toNat) % 16777216
      ∧ atOrPast b a = decide ((b.toNat + 16777216 - a.toNat) % 16777216 < 8388608))
    ∧ (∀ n w, natBytes n w = (List.range n).map fun i => BitVec.ofNat 8 (w / 256 ^ i))
    ∧ (∀ n, byteOf n = BitVec.ofNat 8 n) ∧ indicator false = 0 ∧ indicator true = 1
    ∧ ∀ (ts : Tables) (b w : TableId → Nat → Nat → Nat),
      (∀ t i k, b t i k = ((rowBytes (tableRow ts t i)).getD k 0).toNat) → (∀ t i k, w t i k = b t i k + 256 * b t i (k + 1)) →
      geometryOf ts
        = ⟨w .geometry 0 0, w .geometry 0 2, w .geometry 0 4, w .geometry 0 6, w .geometry 0 8, w .geometry 0 10,
          w .geometry 1 0, w .geometry 1 2, w .geometry 1 4, w .geometry 1 6, w .geometry 1 8,
          w .geometry 2 0, w .geometry 2 2, w .geometry 2 4, b .geometry 3 0⟩
      ∧ scansetOf ts
        = ⟨b .scanset 0 0, b .scanset 0 1, b .scanset 0 2, b .scanset 0 3,
          ⟨w .scanset 1 0, w .scanset 1 2, w .scanset 1 4⟩⟩
      ∧ officeNumber ts = w .office 0 0 + 65536 * b .office 0 2 ∧ laneNumber ts = b .office 0 3
      ∧ cutoverHour ts = b .office 0 4
      ∧ (∀ k, k < 8 → officeStation ts k = BitVec.ofNat 5 (b .office 1 k))
      ∧ controllerStation ts = officeStation ts 0 ∧ gateStation ts = officeStation ts 1
      ∧ (∀ h : Fin 4, headStation ts h = officeStation ts (2 + h.val))
      ∧ ∀ p, p < 4 → lampSteps ts p = w .lamp 0 (2 * p)

end Statements
end

