-- ==== Sys2Proof/Laws/State.lean ====
section
/-! SUPPORT. The fields of a state after the update of one block: each update reads back, and leaves the other fields. -/

namespace Sys2Proof.Machine

variable (s : State)

/-! ## withPosition -/

@[simp] theorem State.withPosition_position (x : PositionUnit) : (s.withPosition x).position = x := rfl
@[simp] theorem State.withPosition_track (x : PositionUnit) : (s.withPosition x).track = s.track := rfl
@[simp] theorem State.withPosition_scan (x : PositionUnit) : (s.withPosition x).scan = s.scan := rfl
@[simp] theorem State.withPosition_eval (x : PositionUnit) : (s.withPosition x).eval = s.eval := rfl
@[simp] theorem State.withPosition_routing (x : PositionUnit) : (s.withPosition x).routing = s.routing := rfl
@[simp] theorem State.withPosition_heads (x : PositionUnit) : (s.withPosition x).heads = s.heads := rfl
@[simp] theorem State.withPosition_clock (x : PositionUnit) : (s.withPosition x).clock = s.clock := rfl
@[simp] theorem State.withPosition_stackers (x : PositionUnit) : (s.withPosition x).stackers = s.stackers := rfl
@[simp] theorem State.withPosition_tally (x : PositionUnit) : (s.withPosition x).tally = s.tally := rfl
@[simp] theorem State.withPosition_store (x : PositionUnit) : (s.withPosition x).store = s.store := rfl
@[simp] theorem State.withPosition_cond (x : PositionUnit) : (s.withPosition x).cond = s.cond := rfl
@[simp] theorem State.withPosition_ring (x : PositionUnit) : (s.withPosition x).ring = s.ring := rfl
@[simp] theorem State.withPosition_time (x : PositionUnit) : (s.withPosition x).time = s.time := rfl
@[simp] theorem State.withPosition_choices (x : PositionUnit) : (s.withPosition x).choices = s.choices := rfl
@[simp] theorem State.withPosition_pending (x : PositionUnit) : (s.withPosition x).pending = s.pending := rfl

/-! ## withTrack -/

@[simp] theorem State.withTrack_position (x : LetterTrack) : (s.withTrack x).position = s.position := rfl
@[simp] theorem State.withTrack_track (x : LetterTrack) : (s.withTrack x).track = x := rfl
@[simp] theorem State.withTrack_scan (x : LetterTrack) : (s.withTrack x).scan = s.scan := rfl
@[simp] theorem State.withTrack_eval (x : LetterTrack) : (s.withTrack x).eval = s.eval := rfl
@[simp] theorem State.withTrack_routing (x : LetterTrack) : (s.withTrack x).routing = s.routing := rfl
@[simp] theorem State.withTrack_heads (x : LetterTrack) : (s.withTrack x).heads = s.heads := rfl
@[simp] theorem State.withTrack_clock (x : LetterTrack) : (s.withTrack x).clock = s.clock := rfl
@[simp] theorem State.withTrack_stackers (x : LetterTrack) : (s.withTrack x).stackers = s.stackers := rfl
@[simp] theorem State.withTrack_tally (x : LetterTrack) : (s.withTrack x).tally = s.tally := rfl
@[simp] theorem State.withTrack_store (x : LetterTrack) : (s.withTrack x).store = s.store := rfl
@[simp] theorem State.withTrack_cond (x : LetterTrack) : (s.withTrack x).cond = s.cond := rfl
@[simp] theorem State.withTrack_ring (x : LetterTrack) : (s.withTrack x).ring = s.ring := rfl
@[simp] theorem State.withTrack_time (x : LetterTrack) : (s.withTrack x).time = s.time := rfl
@[simp] theorem State.withTrack_choices (x : LetterTrack) : (s.withTrack x).choices = s.choices := rfl
@[simp] theorem State.withTrack_pending (x : LetterTrack) : (s.withTrack x).pending = s.pending := rfl

/-! ## withScan -/

@[simp] theorem State.withScan_position (x : ScanUnit) : (s.withScan x).position = s.position := rfl
@[simp] theorem State.withScan_track (x : ScanUnit) : (s.withScan x).track = s.track := rfl
@[simp] theorem State.withScan_scan (x : ScanUnit) : (s.withScan x).scan = x := rfl
@[simp] theorem State.withScan_eval (x : ScanUnit) : (s.withScan x).eval = s.eval := rfl
@[simp] theorem State.withScan_routing (x : ScanUnit) : (s.withScan x).routing = s.routing := rfl
@[simp] theorem State.withScan_heads (x : ScanUnit) : (s.withScan x).heads = s.heads := rfl
@[simp] theorem State.withScan_clock (x : ScanUnit) : (s.withScan x).clock = s.clock := rfl
@[simp] theorem State.withScan_stackers (x : ScanUnit) : (s.withScan x).stackers = s.stackers := rfl
@[simp] theorem State.withScan_tally (x : ScanUnit) : (s.withScan x).tally = s.tally := rfl
@[simp] theorem State.withScan_store (x : ScanUnit) : (s.withScan x).store = s.store := rfl
@[simp] theorem State.withScan_cond (x : ScanUnit) : (s.withScan x).cond = s.cond := rfl
@[simp] theorem State.withScan_ring (x : ScanUnit) : (s.withScan x).ring = s.ring := rfl
@[simp] theorem State.withScan_time (x : ScanUnit) : (s.withScan x).time = s.time := rfl
@[simp] theorem State.withScan_choices (x : ScanUnit) : (s.withScan x).choices = s.choices := rfl
@[simp] theorem State.withScan_pending (x : ScanUnit) : (s.withScan x).pending = s.pending := rfl

/-! ## withEval -/

@[simp] theorem State.withEval_position (x : EvaluationUnit) : (s.withEval x).position = s.position := rfl
@[simp] theorem State.withEval_track (x : EvaluationUnit) : (s.withEval x).track = s.track := rfl
@[simp] theorem State.withEval_scan (x : EvaluationUnit) : (s.withEval x).scan = s.scan := rfl
@[simp] theorem State.withEval_eval (x : EvaluationUnit) : (s.withEval x).eval = x := rfl
@[simp] theorem State.withEval_routing (x : EvaluationUnit) : (s.withEval x).routing = s.routing := rfl
@[simp] theorem State.withEval_heads (x : EvaluationUnit) : (s.withEval x).heads = s.heads := rfl
@[simp] theorem State.withEval_clock (x : EvaluationUnit) : (s.withEval x).clock = s.clock := rfl
@[simp] theorem State.withEval_stackers (x : EvaluationUnit) : (s.withEval x).stackers = s.stackers := rfl
@[simp] theorem State.withEval_tally (x : EvaluationUnit) : (s.withEval x).tally = s.tally := rfl
@[simp] theorem State.withEval_store (x : EvaluationUnit) : (s.withEval x).store = s.store := rfl
@[simp] theorem State.withEval_cond (x : EvaluationUnit) : (s.withEval x).cond = s.cond := rfl
@[simp] theorem State.withEval_ring (x : EvaluationUnit) : (s.withEval x).ring = s.ring := rfl
@[simp] theorem State.withEval_time (x : EvaluationUnit) : (s.withEval x).time = s.time := rfl
@[simp] theorem State.withEval_choices (x : EvaluationUnit) : (s.withEval x).choices = s.choices := rfl
@[simp] theorem State.withEval_pending (x : EvaluationUnit) : (s.withEval x).pending = s.pending := rfl

/-! ## withRouting -/

@[simp] theorem State.withRouting_position (x : RoutingUnit) : (s.withRouting x).position = s.position := rfl
@[simp] theorem State.withRouting_track (x : RoutingUnit) : (s.withRouting x).track = s.track := rfl
@[simp] theorem State.withRouting_scan (x : RoutingUnit) : (s.withRouting x).scan = s.scan := rfl
@[simp] theorem State.withRouting_eval (x : RoutingUnit) : (s.withRouting x).eval = s.eval := rfl
@[simp] theorem State.withRouting_routing (x : RoutingUnit) : (s.withRouting x).routing = x := rfl
@[simp] theorem State.withRouting_heads (x : RoutingUnit) : (s.withRouting x).heads = s.heads := rfl
@[simp] theorem State.withRouting_clock (x : RoutingUnit) : (s.withRouting x).clock = s.clock := rfl
@[simp] theorem State.withRouting_stackers (x : RoutingUnit) : (s.withRouting x).stackers = s.stackers := rfl
@[simp] theorem State.withRouting_tally (x : RoutingUnit) : (s.withRouting x).tally = s.tally := rfl
@[simp] theorem State.withRouting_store (x : RoutingUnit) : (s.withRouting x).store = s.store := rfl
@[simp] theorem State.withRouting_cond (x : RoutingUnit) : (s.withRouting x).cond = s.cond := rfl
@[simp] theorem State.withRouting_ring (x : RoutingUnit) : (s.withRouting x).ring = s.ring := rfl
@[simp] theorem State.withRouting_time (x : RoutingUnit) : (s.withRouting x).time = s.time := rfl
@[simp] theorem State.withRouting_choices (x : RoutingUnit) : (s.withRouting x).choices = s.choices := rfl
@[simp] theorem State.withRouting_pending (x : RoutingUnit) : (s.withRouting x).pending = s.pending := rfl

/-! ## withHeads -/

@[simp] theorem State.withHeads_position (x : Vector Head 4) : (s.withHeads x).position = s.position := rfl
@[simp] theorem State.withHeads_track (x : Vector Head 4) : (s.withHeads x).track = s.track := rfl
@[simp] theorem State.withHeads_scan (x : Vector Head 4) : (s.withHeads x).scan = s.scan := rfl
@[simp] theorem State.withHeads_eval (x : Vector Head 4) : (s.withHeads x).eval = s.eval := rfl
@[simp] theorem State.withHeads_routing (x : Vector Head 4) : (s.withHeads x).routing = s.routing := rfl
@[simp] theorem State.withHeads_heads (x : Vector Head 4) : (s.withHeads x).heads = x := rfl
@[simp] theorem State.withHeads_clock (x : Vector Head 4) : (s.withHeads x).clock = s.clock := rfl
@[simp] theorem State.withHeads_stackers (x : Vector Head 4) : (s.withHeads x).stackers = s.stackers := rfl
@[simp] theorem State.withHeads_tally (x : Vector Head 4) : (s.withHeads x).tally = s.tally := rfl
@[simp] theorem State.withHeads_store (x : Vector Head 4) : (s.withHeads x).store = s.store := rfl
@[simp] theorem State.withHeads_cond (x : Vector Head 4) : (s.withHeads x).cond = s.cond := rfl
@[simp] theorem State.withHeads_ring (x : Vector Head 4) : (s.withHeads x).ring = s.ring := rfl
@[simp] theorem State.withHeads_time (x : Vector Head 4) : (s.withHeads x).time = s.time := rfl
@[simp] theorem State.withHeads_choices (x : Vector Head 4) : (s.withHeads x).choices = s.choices := rfl
@[simp] theorem State.withHeads_pending (x : Vector Head 4) : (s.withHeads x).pending = s.pending := rfl

/-! ## withClock -/

@[simp] theorem State.withClock_position (x : Clock) : (s.withClock x).position = s.position := rfl
@[simp] theorem State.withClock_track (x : Clock) : (s.withClock x).track = s.track := rfl
@[simp] theorem State.withClock_scan (x : Clock) : (s.withClock x).scan = s.scan := rfl
@[simp] theorem State.withClock_eval (x : Clock) : (s.withClock x).eval = s.eval := rfl
@[simp] theorem State.withClock_routing (x : Clock) : (s.withClock x).routing = s.routing := rfl
@[simp] theorem State.withClock_heads (x : Clock) : (s.withClock x).heads = s.heads := rfl
@[simp] theorem State.withClock_clock (x : Clock) : (s.withClock x).clock = x := rfl
@[simp] theorem State.withClock_stackers (x : Clock) : (s.withClock x).stackers = s.stackers := rfl
@[simp] theorem State.withClock_tally (x : Clock) : (s.withClock x).tally = s.tally := rfl
@[simp] theorem State.withClock_store (x : Clock) : (s.withClock x).store = s.store := rfl
@[simp] theorem State.withClock_cond (x : Clock) : (s.withClock x).cond = s.cond := rfl
@[simp] theorem State.withClock_ring (x : Clock) : (s.withClock x).ring = s.ring := rfl
@[simp] theorem State.withClock_time (x : Clock) : (s.withClock x).time = s.time := rfl
@[simp] theorem State.withClock_choices (x : Clock) : (s.withClock x).choices = s.choices := rfl
@[simp] theorem State.withClock_pending (x : Clock) : (s.withClock x).pending = s.pending := rfl

/-! ## withStackers -/

@[simp] theorem State.withStackers_position (x : Vector Stacker 8) : (s.withStackers x).position = s.position := rfl
@[simp] theorem State.withStackers_track (x : Vector Stacker 8) : (s.withStackers x).track = s.track := rfl
@[simp] theorem State.withStackers_scan (x : Vector Stacker 8) : (s.withStackers x).scan = s.scan := rfl
@[simp] theorem State.withStackers_eval (x : Vector Stacker 8) : (s.withStackers x).eval = s.eval := rfl
@[simp] theorem State.withStackers_routing (x : Vector Stacker 8) : (s.withStackers x).routing = s.routing := rfl
@[simp] theorem State.withStackers_heads (x : Vector Stacker 8) : (s.withStackers x).heads = s.heads := rfl
@[simp] theorem State.withStackers_clock (x : Vector Stacker 8) : (s.withStackers x).clock = s.clock := rfl
@[simp] theorem State.withStackers_stackers (x : Vector Stacker 8) : (s.withStackers x).stackers = x := rfl
@[simp] theorem State.withStackers_tally (x : Vector Stacker 8) : (s.withStackers x).tally = s.tally := rfl
@[simp] theorem State.withStackers_store (x : Vector Stacker 8) : (s.withStackers x).store = s.store := rfl
@[simp] theorem State.withStackers_cond (x : Vector Stacker 8) : (s.withStackers x).cond = s.cond := rfl
@[simp] theorem State.withStackers_ring (x : Vector Stacker 8) : (s.withStackers x).ring = s.ring := rfl
@[simp] theorem State.withStackers_time (x : Vector Stacker 8) : (s.withStackers x).time = s.time := rfl
@[simp] theorem State.withStackers_choices (x : Vector Stacker 8) : (s.withStackers x).choices = s.choices := rfl
@[simp] theorem State.withStackers_pending (x : Vector Stacker 8) : (s.withStackers x).pending = s.pending := rfl

/-! ## withTally -/

@[simp] theorem State.withTally_position (x : TallyUnit) : (s.withTally x).position = s.position := rfl
@[simp] theorem State.withTally_track (x : TallyUnit) : (s.withTally x).track = s.track := rfl
@[simp] theorem State.withTally_scan (x : TallyUnit) : (s.withTally x).scan = s.scan := rfl
@[simp] theorem State.withTally_eval (x : TallyUnit) : (s.withTally x).eval = s.eval := rfl
@[simp] theorem State.withTally_routing (x : TallyUnit) : (s.withTally x).routing = s.routing := rfl
@[simp] theorem State.withTally_heads (x : TallyUnit) : (s.withTally x).heads = s.heads := rfl
@[simp] theorem State.withTally_clock (x : TallyUnit) : (s.withTally x).clock = s.clock := rfl
@[simp] theorem State.withTally_stackers (x : TallyUnit) : (s.withTally x).stackers = s.stackers := rfl
@[simp] theorem State.withTally_tally (x : TallyUnit) : (s.withTally x).tally = x := rfl
@[simp] theorem State.withTally_store (x : TallyUnit) : (s.withTally x).store = s.store := rfl
@[simp] theorem State.withTally_cond (x : TallyUnit) : (s.withTally x).cond = s.cond := rfl
@[simp] theorem State.withTally_ring (x : TallyUnit) : (s.withTally x).ring = s.ring := rfl
@[simp] theorem State.withTally_time (x : TallyUnit) : (s.withTally x).time = s.time := rfl
@[simp] theorem State.withTally_choices (x : TallyUnit) : (s.withTally x).choices = s.choices := rfl
@[simp] theorem State.withTally_pending (x : TallyUnit) : (s.withTally x).pending = s.pending := rfl

/-! ## withStore -/

@[simp] theorem State.withStore_position (x : TableStore) : (s.withStore x).position = s.position := rfl
@[simp] theorem State.withStore_track (x : TableStore) : (s.withStore x).track = s.track := rfl
@[simp] theorem State.withStore_scan (x : TableStore) : (s.withStore x).scan = s.scan := rfl
@[simp] theorem State.withStore_eval (x : TableStore) : (s.withStore x).eval = s.eval := rfl
@[simp] theorem State.withStore_routing (x : TableStore) : (s.withStore x).routing = s.routing := rfl
@[simp] theorem State.withStore_heads (x : TableStore) : (s.withStore x).heads = s.heads := rfl
@[simp] theorem State.withStore_clock (x : TableStore) : (s.withStore x).clock = s.clock := rfl
@[simp] theorem State.withStore_stackers (x : TableStore) : (s.withStore x).stackers = s.stackers := rfl
@[simp] theorem State.withStore_tally (x : TableStore) : (s.withStore x).tally = s.tally := rfl
@[simp] theorem State.withStore_store (x : TableStore) : (s.withStore x).store = x := rfl
@[simp] theorem State.withStore_cond (x : TableStore) : (s.withStore x).cond = s.cond := rfl
@[simp] theorem State.withStore_ring (x : TableStore) : (s.withStore x).ring = s.ring := rfl
@[simp] theorem State.withStore_time (x : TableStore) : (s.withStore x).time = s.time := rfl
@[simp] theorem State.withStore_choices (x : TableStore) : (s.withStore x).choices = s.choices := rfl
@[simp] theorem State.withStore_pending (x : TableStore) : (s.withStore x).pending = s.pending := rfl

/-! ## withCond -/

@[simp] theorem State.withCond_position (x : ConditionUnit) : (s.withCond x).position = s.position := rfl
@[simp] theorem State.withCond_track (x : ConditionUnit) : (s.withCond x).track = s.track := rfl
@[simp] theorem State.withCond_scan (x : ConditionUnit) : (s.withCond x).scan = s.scan := rfl
@[simp] theorem State.withCond_eval (x : ConditionUnit) : (s.withCond x).eval = s.eval := rfl
@[simp] theorem State.withCond_routing (x : ConditionUnit) : (s.withCond x).routing = s.routing := rfl
@[simp] theorem State.withCond_heads (x : ConditionUnit) : (s.withCond x).heads = s.heads := rfl
@[simp] theorem State.withCond_clock (x : ConditionUnit) : (s.withCond x).clock = s.clock := rfl
@[simp] theorem State.withCond_stackers (x : ConditionUnit) : (s.withCond x).stackers = s.stackers := rfl
@[simp] theorem State.withCond_tally (x : ConditionUnit) : (s.withCond x).tally = s.tally := rfl
@[simp] theorem State.withCond_store (x : ConditionUnit) : (s.withCond x).store = s.store := rfl
@[simp] theorem State.withCond_cond (x : ConditionUnit) : (s.withCond x).cond = x := rfl
@[simp] theorem State.withCond_ring (x : ConditionUnit) : (s.withCond x).ring = s.ring := rfl
@[simp] theorem State.withCond_time (x : ConditionUnit) : (s.withCond x).time = s.time := rfl
@[simp] theorem State.withCond_choices (x : ConditionUnit) : (s.withCond x).choices = s.choices := rfl
@[simp] theorem State.withCond_pending (x : ConditionUnit) : (s.withCond x).pending = s.pending := rfl

/-! ## withRing -/

@[simp] theorem State.withRing_position (x : RingPort) : (s.withRing x).position = s.position := rfl
@[simp] theorem State.withRing_track (x : RingPort) : (s.withRing x).track = s.track := rfl
@[simp] theorem State.withRing_scan (x : RingPort) : (s.withRing x).scan = s.scan := rfl
@[simp] theorem State.withRing_eval (x : RingPort) : (s.withRing x).eval = s.eval := rfl
@[simp] theorem State.withRing_routing (x : RingPort) : (s.withRing x).routing = s.routing := rfl
@[simp] theorem State.withRing_heads (x : RingPort) : (s.withRing x).heads = s.heads := rfl
@[simp] theorem State.withRing_clock (x : RingPort) : (s.withRing x).clock = s.clock := rfl
@[simp] theorem State.withRing_stackers (x : RingPort) : (s.withRing x).stackers = s.stackers := rfl
@[simp] theorem State.withRing_tally (x : RingPort) : (s.withRing x).tally = s.tally := rfl
@[simp] theorem State.withRing_store (x : RingPort) : (s.withRing x).store = s.store := rfl
@[simp] theorem State.withRing_cond (x : RingPort) : (s.withRing x).cond = s.cond := rfl
@[simp] theorem State.withRing_ring (x : RingPort) : (s.withRing x).ring = x := rfl
@[simp] theorem State.withRing_time (x : RingPort) : (s.withRing x).time = s.time := rfl
@[simp] theorem State.withRing_choices (x : RingPort) : (s.withRing x).choices = s.choices := rfl
@[simp] theorem State.withRing_pending (x : RingPort) : (s.withRing x).pending = s.pending := rfl

/-! ## withTime -/

@[simp] theorem State.withTime_position (x : TimeBase) : (s.withTime x).position = s.position := rfl
@[simp] theorem State.withTime_track (x : TimeBase) : (s.withTime x).track = s.track := rfl
@[simp] theorem State.withTime_scan (x : TimeBase) : (s.withTime x).scan = s.scan := rfl
@[simp] theorem State.withTime_eval (x : TimeBase) : (s.withTime x).eval = s.eval := rfl
@[simp] theorem State.withTime_routing (x : TimeBase) : (s.withTime x).routing = s.routing := rfl
@[simp] theorem State.withTime_heads (x : TimeBase) : (s.withTime x).heads = s.heads := rfl
@[simp] theorem State.withTime_clock (x : TimeBase) : (s.withTime x).clock = s.clock := rfl
@[simp] theorem State.withTime_stackers (x : TimeBase) : (s.withTime x).stackers = s.stackers := rfl
@[simp] theorem State.withTime_tally (x : TimeBase) : (s.withTime x).tally = s.tally := rfl
@[simp] theorem State.withTime_store (x : TimeBase) : (s.withTime x).store = s.store := rfl
@[simp] theorem State.withTime_cond (x : TimeBase) : (s.withTime x).cond = s.cond := rfl
@[simp] theorem State.withTime_ring (x : TimeBase) : (s.withTime x).ring = s.ring := rfl
@[simp] theorem State.withTime_time (x : TimeBase) : (s.withTime x).time = x := rfl
@[simp] theorem State.withTime_choices (x : TimeBase) : (s.withTime x).choices = s.choices := rfl
@[simp] theorem State.withTime_pending (x : TimeBase) : (s.withTime x).pending = s.pending := rfl

/-! ## withChoices -/

@[simp] theorem State.withChoices_position (x : Nat) : (s.withChoices x).position = s.position := rfl
@[simp] theorem State.withChoices_track (x : Nat) : (s.withChoices x).track = s.track := rfl
@[simp] theorem State.withChoices_scan (x : Nat) : (s.withChoices x).scan = s.scan := rfl
@[simp] theorem State.withChoices_eval (x : Nat) : (s.withChoices x).eval = s.eval := rfl
@[simp] theorem State.withChoices_routing (x : Nat) : (s.withChoices x).routing = s.routing := rfl
@[simp] theorem State.withChoices_heads (x : Nat) : (s.withChoices x).heads = s.heads := rfl
@[simp] theorem State.withChoices_clock (x : Nat) : (s.withChoices x).clock = s.clock := rfl
@[simp] theorem State.withChoices_stackers (x : Nat) : (s.withChoices x).stackers = s.stackers := rfl
@[simp] theorem State.withChoices_tally (x : Nat) : (s.withChoices x).tally = s.tally := rfl
@[simp] theorem State.withChoices_store (x : Nat) : (s.withChoices x).store = s.store := rfl
@[simp] theorem State.withChoices_cond (x : Nat) : (s.withChoices x).cond = s.cond := rfl
@[simp] theorem State.withChoices_ring (x : Nat) : (s.withChoices x).ring = s.ring := rfl
@[simp] theorem State.withChoices_time (x : Nat) : (s.withChoices x).time = s.time := rfl
@[simp] theorem State.withChoices_choices (x : Nat) : (s.withChoices x).choices = x := rfl
@[simp] theorem State.withChoices_pending (x : Nat) : (s.withChoices x).pending = s.pending := rfl

/-! ## withPending -/

@[simp] theorem State.withPending_position (x : List Instr) : (s.withPending x).position = s.position := rfl
@[simp] theorem State.withPending_track (x : List Instr) : (s.withPending x).track = s.track := rfl
@[simp] theorem State.withPending_scan (x : List Instr) : (s.withPending x).scan = s.scan := rfl
@[simp] theorem State.withPending_eval (x : List Instr) : (s.withPending x).eval = s.eval := rfl
@[simp] theorem State.withPending_routing (x : List Instr) : (s.withPending x).routing = s.routing := rfl
@[simp] theorem State.withPending_heads (x : List Instr) : (s.withPending x).heads = s.heads := rfl
@[simp] theorem State.withPending_clock (x : List Instr) : (s.withPending x).clock = s.clock := rfl
@[simp] theorem State.withPending_stackers (x : List Instr) : (s.withPending x).stackers = s.stackers := rfl
@[simp] theorem State.withPending_tally (x : List Instr) : (s.withPending x).tally = s.tally := rfl
@[simp] theorem State.withPending_store (x : List Instr) : (s.withPending x).store = s.store := rfl
@[simp] theorem State.withPending_cond (x : List Instr) : (s.withPending x).cond = s.cond := rfl
@[simp] theorem State.withPending_ring (x : List Instr) : (s.withPending x).ring = s.ring := rfl
@[simp] theorem State.withPending_time (x : List Instr) : (s.withPending x).time = s.time := rfl
@[simp] theorem State.withPending_choices (x : List Instr) : (s.withPending x).choices = s.choices := rfl
@[simp] theorem State.withPending_pending (x : List Instr) : (s.withPending x).pending = x := rfl

/-! ## Vectors -/

/-- An entry of an updated vector. -/
@[simp] theorem updateAt_getElem {α : Type} {n : Nat} (v : Vector α n) (i : Fin n) (f : α → α) (j : Nat) (hj : j < n) :
    (updateAt v i f)[j] = if j = i.val then f v[j] else v[j] := by
  by_cases h : j = i.val
  · subst h; simp [updateAt]
  · simp [updateAt, h, Ne.symm h]

/-- An entry of an updated vector, by its number in range. -/
theorem updateAt_get {α : Type} {n : Nat} (v : Vector α n) (i j : Fin n) (f : α → α) :
    (updateAt v i f)[j] = if j = i then f v[j] else v[j] := by
  simp [Fin.ext_iff]

end Sys2Proof.Machine
end

