-- ==== Sys2Proof/Laws/Frames.lean ====
section
/-! SUPPORT. Which blocks each operation may change: one lemma per operation, chained from the operations it calls. -/

namespace Sys2Proof.Machine

/-! ## Chaining -/

theorem changesOnly.refl (bs : List Block) (s : State) : changesOnly bs s s := by
  intro b _; cases b <;> rfl

theorem Block.agree_trans {b : Block} {s t u : State} (h : b.agree s t) (k : b.agree t u) : b.agree s u := by
  cases b <;> exact Eq.trans k h

/-- Every block of one list is in another. -/
def within (as cs : List Block) : Bool := as.all fun b => decide (b ∈ cs)

theorem mem_of_within {as cs : List Block} (h : within as cs = true) {b : Block} (m : b ∈ as) : b ∈ cs := by
  simp only [within, List.all_eq_true, decide_eq_true_eq] at h
  exact h b m

theorem changesOnly.trans {cs : List Block} {s t u : State} (h : changesOnly cs s t) (k : changesOnly cs t u) :
    changesOnly cs s u := fun b hb => Block.agree_trans (h b hb) (k b hb)

/-- An operation after others whose blocks are all among `cs`. -/
theorem changesOnly.chain {as cs : List Block} {s t u : State} (h : changesOnly as t u) (k : changesOnly cs s t)
    (sub : within as cs = true) : changesOnly cs s u :=
  k.trans fun b hb => h b fun m => hb (mem_of_within sub m)

theorem changesOnly.mono {as cs : List Block} {s t : State} (h : changesOnly as s t)
    (sub : within as cs = true) : changesOnly cs s t := h.chain (changesOnly.refl cs s) sub

/-- A fold whose every step changes only some blocks. -/
theorem changesOnly.foldl {α : Type} {cs : List Block} {f : State → α → State} (h : ∀ s a, changesOnly cs s (f s a))
    (xs : List α) (s : State) : changesOnly cs s (xs.foldl f s) := by
  induction xs generalizing s with
  | nil => exact changesOnly.refl cs s
  | cons x xs ih => exact (h s x).trans (ih (f s x))

theorem changesOnly.iteSame {cs : List Block} {s t u : State} {p : Prop} [Decidable p] (h : changesOnly cs s t)
    (k : changesOnly cs s u) : changesOnly cs s (if p then t else u) := by
  split
  · exact h
  · exact k

/-! ## One block -/

section
variable (s : State)

theorem withPosition_frame (x) : changesOnly [.position] s (s.withPosition x) := by
  intro b hb; cases b <;> first | rfl | exact absurd (List.mem_singleton_self _) hb
theorem withTrack_frame (x) : changesOnly [.track] s (s.withTrack x) := by
  intro b hb; cases b <;> first | rfl | exact absurd (List.mem_singleton_self _) hb
theorem withScan_frame (x) : changesOnly [.scan] s (s.withScan x) := by
  intro b hb; cases b <;> first | rfl | exact absurd (List.mem_singleton_self _) hb
theorem withEval_frame (x) : changesOnly [.eval] s (s.withEval x) := by
  intro b hb; cases b <;> first | rfl | exact absurd (List.mem_singleton_self _) hb
theorem withRouting_frame (x) : changesOnly [.routing] s (s.withRouting x) := by
  intro b hb; cases b <;> first | rfl | exact absurd (List.mem_singleton_self _) hb
theorem withHeads_frame (x) : changesOnly [.heads] s (s.withHeads x) := by
  intro b hb; cases b <;> first | rfl | exact absurd (List.mem_singleton_self _) hb
theorem withClock_frame (x) : changesOnly [.clock] s (s.withClock x) := by
  intro b hb; cases b <;> first | rfl | exact absurd (List.mem_singleton_self _) hb
theorem withStackers_frame (x) : changesOnly [.stackers] s (s.withStackers x) := by
  intro b hb; cases b <;> first | rfl | exact absurd (List.mem_singleton_self _) hb
theorem withTally_frame (x) : changesOnly [.tally] s (s.withTally x) := by
  intro b hb; cases b <;> first | rfl | exact absurd (List.mem_singleton_self _) hb
theorem withStore_frame (x) : changesOnly [.store] s (s.withStore x) := by
  intro b hb; cases b <;> first | rfl | exact absurd (List.mem_singleton_self _) hb
theorem withCond_frame (x) : changesOnly [.cond] s (s.withCond x) := by
  intro b hb; cases b <;> first | rfl | exact absurd (List.mem_singleton_self _) hb
theorem withRing_frame (x) : changesOnly [.ring] s (s.withRing x) := by
  intro b hb; cases b <;> first | rfl | exact absurd (List.mem_singleton_self _) hb
theorem withTime_frame (x) : changesOnly [.time] s (s.withTime x) := by
  intro b hb; cases b <;> first | rfl | exact absurd (List.mem_singleton_self _) hb
theorem withChoices_frame (x) : changesOnly [.choices] s (s.withChoices x) := by
  intro b hb; cases b <;> first | rfl | exact absurd (List.mem_singleton_self _) hb
theorem withPending_frame (x) : changesOnly [.pending] s (s.withPending x) := by
  intro b hb; cases b <;> first | rfl | exact absurd (List.mem_singleton_self _) hb

theorem modifyHead_frame (h f) : changesOnly [.heads] s (modifyHead h f s) := withHeads_frame s _
theorem modifyStacker_frame (n f) : changesOnly [.stackers] s (modifyStacker n f s) := withStackers_frame s _
theorem modifyCounters_frame (f) : changesOnly [.ring] s (modifyCounters f s) := withRing_frame s _
theorem modifyLetter_frame (q f) : changesOnly [.track] s (modifyLetter q f s) := withTrack_frame s _
theorem setPrintStatus_frame (q st) : changesOnly [.track] s (setPrintStatus q st s) := modifyLetter_frame s _ _
theorem setLetterState_frame (q st) : changesOnly [.track] s (setLetterState q st s) := modifyLetter_frame s _ _
theorem setMode_frame (m) : changesOnly [.track] s (setMode m s) := withTrack_frame s _
theorem setTrailExpected_frame (b) : changesOnly [.track] s (setTrailExpected b s) := withTrack_frame s _
theorem setLastTrailing_frame (p) : changesOnly [.track] s (setLastTrailing p s) := withTrack_frame s _
theorem removeLetter_frame (q) : changesOnly [.track] s (removeLetter q s) := withTrack_frame s _
theorem setLoad_frame (l) : changesOnly [.store] s (setLoad l s) := withStore_frame s _
theorem setReserved_frame (n) : changesOnly [.ring] s (setReserved n s) := withRing_frame s _
theorem popIntake_frame : changesOnly [.ring] s (popIntake s) := withRing_frame s _
theorem addBooking_frame (h b) : changesOnly [.heads] s (addBooking h b s) := modifyHead_frame s _ _
theorem resetHeads_frame : changesOnly [.heads] s (resetHeads s) := withHeads_frame s _
theorem reserve_frame (n) : changesOnly [.stackers] s (reserve n s) := modifyStacker_frame s _ _
theorem retireFrom_frame (n c) : changesOnly [.stackers] s (retireFrom n c s) := modifyStacker_frame s _ _
theorem retirePlan_frame : changesOnly [.routing] s (retirePlan s) := withRouting_frame s _
theorem emptyPlan_frame : changesOnly [.routing] s (emptyPlan s) := withRouting_frame s _
theorem appendPlan_frame (l p) : changesOnly [.routing] s (appendPlan l p s) := withRouting_frame s _
theorem writeDisposition_frame (q d pr w) : changesOnly [.track] s (writeDisposition q d pr w s) :=
  modifyLetter_frame s _ _
theorem recordVerdict_frame (q v m) : changesOnly [.track] s (recordVerdict q v m s) := modifyLetter_frame s _ _
theorem secondEventAt_frame : changesOnly [.clock] s (secondEventAt s) := withClock_frame s _
theorem formDistances_frame (t) : changesOnly [.position] s (formDistances t s) := withPosition_frame s _
theorem takeLine_frame (h x w) : changesOnly [.scan] s (takeLine h x w s) := withScan_frame s _
theorem dropFromQueue_frame (q) : changesOnly [.eval] s (dropFromQueue q s) := withEval_frame s _
theorem windowExpiry_frame (h) : changesOnly [.heads] s (windowExpiry h s) := modifyHead_frame s _ _

/-! ## The ring port -/

theorem grant_frame : changesOnly [.ring] s (grant s) := withRing_frame s _
theorem joinOrder_frame (o) : changesOnly [.ring] s (joinOrder o s) := (grant_frame _).chain (withRing_frame s _) rfl
theorem joinAnswer_frame (a) : changesOnly [.ring] s (joinAnswer a s) := (grant_frame _).chain (withRing_frame s _) rfl
theorem joinForward_frame (f) : changesOnly [.ring] s (joinForward f s) := (grant_frame _).chain (withRing_frame s _) rfl
theorem issueOrder_frame (p o) : changesOnly [.ring] s (issueOrder p o s) :=
  (joinOrder_frame s o).iteSame (withRing_frame s _)
theorem countStrayReport_frame : changesOnly [.ring] s (countStrayReport s) := modifyCounters_frame s _
theorem countUnknownKind_frame : changesOnly [.ring] s (countUnknownKind s) := modifyCounters_frame s _

/-! ## Flags, notices and tallies -/

theorem markFlag_frame (f) : changesOnly [.cond] s (markFlag f s) := withCond_frame s _
theorem sendNotice_frame (n) : changesOnly [.cond, .ring] s (sendNotice n s) :=
  changesOnly.iteSame ((markFlag_frame _ _).chain ((modifyCounters_frame s _).mono rfl) rfl) ((joinAnswer_frame s n).mono rfl)
theorem setFlag_frame (f) : changesOnly [.cond, .ring] s (setFlag f s) := by
  unfold setFlag
  split
  · exact changesOnly.refl _ s
  · exact changesOnly.iteSame ((markFlag_frame s f).mono rfl) ((sendNotice_frame _ _).chain ((markFlag_frame s f).mono rfl) rfl)
theorem sendHalt_frame (c) : changesOnly [.cond, .ring] s (sendHalt c s) := sendNotice_frame s _
theorem countQuiet_frame (i) : changesOnly [.tally] s (countQuiet i s) := withTally_frame s _
theorem count_frame (i) : changesOnly [.tally, .cond, .ring] s (count i s) :=
  changesOnly.iteSame ((setFlag_frame _ _).chain ((withTally_frame s _).mono rfl) rfl) ((withTally_frame s _).mono rfl)

/-! ## Cancel unit -/

theorem startPurge_frame (h) : changesOnly [.heads, .ring] s (startPurge h s) :=
  (modifyHead_frame _ _ _).chain ((issueOrder_frame s _ _).mono rfl) rfl
theorem proceedIfEmpty_frame (h) : changesOnly [.heads, .ring] s (proceedIfEmpty h s) :=
  changesOnly.iteSame (startPurge_frame s h) (changesOnly.refl _ s)
theorem expireBooking_frame (b) : changesOnly [.track, .tally, .cond, .ring] s (expireBooking s b) :=
  (count_frame _ _).chain ((setPrintStatus_frame s _ _).mono rfl) rfl
theorem expireHead_frame (h) : changesOnly [.track, .heads, .tally, .cond, .ring] s (expireHead h s) :=
  changesOnly.iteSame (changesOnly.refl _ s)
    ((proceedIfEmpty_frame _ h).chain
      ((changesOnly.foldl (fun s b => expireBooking_frame s b) _ _).chain ((modifyHead_frame s _ _).mono rfl) rfl) rfl)
theorem expireBookings_frame : changesOnly [.track, .heads, .tally, .cond, .ring] s (expireBookings s) :=
  changesOnly.foldl (fun s h => expireHead_frame s h) _ s
theorem dropBooking_frame (b) : changesOnly [.track, .tally, .cond, .ring] s (dropBooking s b) :=
  (count_frame _ _).chain ((setPrintStatus_frame s _ _).mono rfl) rfl
theorem dropBookings_frame (h) : changesOnly [.track, .heads, .tally, .cond, .ring] s (dropBookings h s) := by
  have k : changesOnly [.track, .heads, .tally, .cond, .ring] s
      (s.heads[h].bookings.foldl dropBooking (modifyHead h (fun k => { k with bookings := [] }) s)) :=
    (changesOnly.foldl (fun s b => dropBooking_frame s b) _ _).chain ((modifyHead_frame s _ _).mono rfl) rfl
  exact changesOnly.iteSame k ((setFlag_frame _ _).chain k rfl)
theorem removeBookingAt_frame (q h) : changesOnly [.heads, .ring] s (removeBookingAt q h s) :=
  changesOnly.iteSame ((proceedIfEmpty_frame _ _).chain ((modifyHead_frame s _ _).mono rfl) rfl) (changesOnly.refl _ s)
theorem removeBooking_frame (q) : changesOnly [.heads, .ring] s (removeBooking q s) :=
  changesOnly.foldl (fun s h => removeBookingAt_frame s q h) _ s
theorem emptyBookings_frame : changesOnly [.heads, .ring] s (emptyBookings s) :=
  (changesOnly.foldl (fun s h => proceedIfEmpty_frame s h) _ _).chain ((withHeads_frame s _).mono rfl) rfl
theorem faultTag_frame (h q) : changesOnly [.track, .tally, .cond, .ring] s (faultTag h q s) := by
  unfold faultTag
  split
  · exact changesOnly.refl _ s
  · split
    · exact changesOnly.refl _ s
    · exact changesOnly.iteSame
        ((setFlag_frame _ _).chain ((count_frame _ _).chain ((setPrintStatus_frame s _ _).mono rfl) rfl) rfl) (changesOnly.refl _ s)
theorem afterFault_frame (h t b) : changesOnly [.track, .tally, .cond, .ring] s (afterFault h t b s) := by
  have k : changesOnly [.track, .tally, .cond, .ring] s (match t with
      | none => setFlag .headfault s
      | some q => faultTag h q (setFlag .headfault s)) := by
    split
    · exact (setFlag_frame s _).mono rfl
    · exact (faultTag_frame _ _ _).chain ((setFlag_frame s _).mono rfl) rfl
  exact changesOnly.iteSame ((setFlag_frame _ _).chain k rfl) k
theorem headfaultAt_frame (h t) : changesOnly [.track, .heads, .tally, .cond, .ring] s (headfaultAt h t s) := by
  have drop : ∀ b (f : State → Head → Head), changesOnly [.track, .heads, .tally, .cond, .ring] s
      (afterFault h t b (modifyHead h (f (dropBookings h s)) (dropBookings h s))) := fun b f =>
    (afterFault_frame _ _ _ _).chain ((modifyHead_frame _ _ _).chain (dropBookings_frame s h) rfl) rfl
  have keep : ∀ b f, changesOnly [.track, .heads, .tally, .cond, .ring] s (afterFault h t b (modifyHead h f s)) :=
    fun b f => (afterFault_frame _ _ _ _).chain ((modifyHead_frame s _ _).mono rfl) rfl
  unfold headfaultAt
  rcases hs : s.heads[h].state with _ | _ | _ | _ | _ | _ <;> simp only
  · exact (countStrayReport_frame s).mono rfl
  · split
    · exact drop true fun _ k => { k with faultWindow := none, state := .latched }
    · exact drop false fun u k => { k with restart := some (startTimer (restartDelay u)), state := .resting }
  · split
    · exact drop true fun _ k => { k with faultWindow := none, state := .latched }
    · exact drop false fun u k => { k with restart := some (startTimer (restartDelay u)), state := .resting }
  · exact keep _ _
  · exact keep _ _
  · exact (countStrayReport_frame s).mono rfl
theorem headfaultReport_frame (h t) : changesOnly [.track, .heads, .tally, .cond, .ring] s (headfaultReport h t s) := by
  unfold headfaultReport
  split
  · exact headfaultAt_frame s _ t
  · exact (countStrayReport_frame s).mono rfl
theorem purgedoneAt_frame (h o) : changesOnly [.heads, .ring] s (purgedoneAt h o s) :=
  changesOnly.iteSame ((modifyHead_frame s _ _).mono rfl) ((countStrayReport_frame s).mono rfl)
theorem purgedoneReport_frame (h o) : changesOnly [.heads, .ring] s (purgedoneReport h o s) := by
  unfold purgedoneReport
  split
  · exact purgedoneAt_frame s _ o
  · exact (countStrayReport_frame s).mono rfl
theorem restartExpiry_frame (h) : changesOnly [.heads] s (restartExpiry h s) :=
  changesOnly.iteSame (modifyHead_frame s _ _) (changesOnly.refl _ s)
theorem purgeExpiry_frame (h) : changesOnly [.heads, .cond, .ring] s (purgeExpiry h s) :=
  changesOnly.iteSame ((setFlag_frame _ _).chain ((setFlag_frame _ _).chain ((modifyHead_frame s _ _).mono rfl) rfl) rfl)
    (changesOnly.refl _ s)
theorem enableHead_frame (h) : changesOnly [.heads] s (enableHead h s).1 := by
  unfold enableHead
  split <;> first | exact modifyHead_frame s _ _ | exact changesOnly.refl _ s
theorem disableHead_frame (h) : changesOnly [.track, .heads, .tally, .cond, .ring] s (disableHead h s) :=
  (modifyHead_frame _ _ _).chain (dropBookings_frame s h) rfl
theorem purgeHead_frame (h) : changesOnly [.heads, .ring] s (purgeHead h s).1 := by
  unfold purgeHead
  split
  · split
    · exact startPurge_frame s h
    · exact (modifyHead_frame s _ _).mono rfl
  all_goals exact changesOnly.refl _ s
theorem abortPurgeHead_frame (h) : changesOnly [.heads, .ring] s (abortPurgeHead h s).1 := by
  unfold abortPurgeHead
  split
  · exact (modifyHead_frame s _ _).mono rfl
  · split
    · exact changesOnly.refl _ s
    · exact (modifyHead_frame _ _ _).chain ((issueOrder_frame s _ _).mono rfl) rfl
  all_goals exact changesOnly.refl _ s
theorem headAction_frame (a h) : changesOnly [.track, .heads, .tally, .cond, .ring] s (headAction a h s).1 := by
  cases a
  · exact (enableHead_frame s h).mono rfl
  · exact disableHead_frame s h
  · exact (purgeHead_frame s h).mono rfl
  · exact (abortPurgeHead_frame s h).mono rfl
  · exact changesOnly.refl _ s

/-! ## Stacker unit -/

theorem issueLamp_frame (n) : changesOnly [.ring] s (issueLamp n s) := issueOrder_frame s _ _
theorem enterFull_frame (n) : changesOnly [.cond, .ring] s (enterFull n s) :=
  changesOnly.iteSame ((sendHalt_frame _ _).chain (setFlag_frame s _) rfl) (setFlag_frame s _)
theorem recomputeLamp_frame (n) : changesOnly [.stackers, .cond, .ring] s (recomputeLamp n s) := by
  have k : changesOnly [.stackers, .cond, .ring] s
      (issueLamp n (modifyStacker n (fun k => { k with lamp := lampConditionOf s n }) s)) :=
    (issueLamp_frame _ _).chain ((modifyStacker_frame s _ _).mono rfl) rfl
  exact changesOnly.iteSame (changesOnly.refl _ s) (changesOnly.iteSame ((enterFull_frame _ _).chain k rfl) k)
theorem recomputeLamps_frame : changesOnly [.stackers, .cond, .ring] s (recomputeLamps s) :=
  changesOnly.foldl (fun s n => recomputeLamp_frame s n) _ s
theorem reissueLamps_frame : changesOnly [.ring] s (reissueLamps s) :=
  changesOnly.foldl (fun s n => changesOnly.iteSame (issueLamp_frame s n) (changesOnly.refl _ s)) _ s
theorem sweep_frame (n) : changesOnly [.stackers, .cond, .ring] s (sweep n s) :=
  (recomputeLamp_frame _ _).chain ((modifyStacker_frame s _ _).mono rfl) rfl
theorem sweptReport_frame (b) : changesOnly [.stackers, .cond, .ring] s (sweptReport b s) := by
  unfold sweptReport
  split
  · exact sweep_frame s _
  · exact (countStrayReport_frame s).mono rfl

/-! ## Evaluation unit -/

theorem startEvaluation_frame : changesOnly [.track, .eval] s (startEvaluation s) := by
  unfold startEvaluation
  split
  · exact changesOnly.refl _ s
  · exact (setLetterState_frame _ _ _).chain ((withEval_frame s _).mono rfl) rfl
theorem queueLetter_frame (q) : changesOnly [.track, .eval] s (queueLetter q s) := by
  have k : changesOnly [.track, .eval] s
      (setLetterState q .queued (s.withEval { s.eval with queue := s.eval.queue ++ [q] })) :=
    (setLetterState_frame _ _ _).chain ((withEval_frame s _).mono rfl) rfl
  exact changesOnly.iteSame k ((startEvaluation_frame _).chain k rfl)
theorem forgetSubject_frame (q) : changesOnly [.eval] s (forgetSubject q s) :=
  changesOnly.iteSame (withEval_frame s _) (changesOnly.refl _ s)
theorem releaseSubject_frame : changesOnly [.track, .eval] s (releaseSubject s) :=
  (startEvaluation_frame _).chain ((withEval_frame s _).mono rfl) rfl

/-! ## Routing unit -/

theorem lateDisposition_frame (l c) :
    changesOnly [.track, .routing, .stackers, .tally, .cond, .ring] s (lateDisposition l c s) :=
  (setFlag_frame _ _).chain ((count_frame _ _).chain ((appendPlan_frame _ _ _).chain ((recomputeLamp_frame _ _).chain
    ((writeDisposition_frame _ _ _ _ _).chain ((reserve_frame s _).mono rfl) rfl) rfl) rfl) rfl) rfl
theorem rowSelection_frame (l v) : changesOnly [.tally, .cond, .ring] s (rowSelection l v s).2 := by
  unfold rowSelection
  split
  · exact count_frame s _
  · simp only
    split
    · exact changesOnly.refl _ s
    · exact count_frame s _
theorem gatePhase_frame (l k) : changesOnly [.tally, .cond, .ring] s (gatePhase l k s).2 := by
  unfold gatePhase
  split
  · exact changesOnly.refl _ s
  · exact changesOnly.refl _ s
  · exact (setFlag_frame _ _).chain (count_frame s _) rfl
theorem printPhase_frame (l v g) : changesOnly [.heads, .tally, .cond, .ring] s (printPhase l v g s).2.2 := by
  unfold printPhase
  split
  · exact changesOnly.refl _ s
  · split
    · exact (addBooking_frame s _ _).mono rfl
    · exact (setFlag_frame _ _).chain ((count_frame s _).mono rfl) rfl
theorem stackerPhase_frame (k p c) : changesOnly [.stackers, .tally, .cond, .ring] s (stackerPhase k p c s).2.2 := by
  unfold stackerPhase
  split
  · exact (reserve_frame s _).mono rfl
  · split
    · exact (reserve_frame s _).mono rfl
    · exact (reserve_frame _ _).chain ((count_frame s _).mono rfl) rfl
theorem commitDecision_frame (l k g pr n c) :
    changesOnly [.track, .routing, .stackers, .cond, .ring] s (commitDecision l k g pr n c s) := by
  unfold commitDecision
  refine (recomputeLamp_frame _ _).chain ((changesOnly.foldl (fun s o => joinOrder_frame s o) _ _).chain ?_ rfl) rfl
  have a : changesOnly [.track, .routing, .stackers, .cond, .ring] s
      (appendPlan l g.path (writeDisposition l.seq ⟨g.path, n, k.row, c⟩ (printOf pr) (arrivalWindow s n l.leading) s)) :=
    (appendPlan_frame _ _ _).chain ((writeDisposition_frame s _ _ _ _).mono rfl) rfl
  exact changesOnly.iteSame ((withRouting_frame _ _).chain a rfl) a
theorem routingDecision_frame (l v) :
    changesOnly [.track, .routing, .heads, .stackers, .tally, .cond, .ring] s (routingDecision l v s) := by
  unfold routingDecision
  split
  · exact (lateDisposition_frame s _ _).mono rfl
  · exact (commitDecision_frame _ _ _ _ _ _ _).chain ((stackerPhase_frame _ _ _ _).chain ((printPhase_frame _ _ _ _).chain
      ((gatePhase_frame _ _ _).chain ((rowSelection_frame s l v).mono rfl) rfl) rfl) rfl) rfl
theorem completeSubject_frame (l) :
    changesOnly [.track, .eval, .routing, .heads, .stackers, .tally, .cond, .ring] s (completeSubject l s) := by
  unfold completeSubject
  split
  · exact (releaseSubject_frame s).mono rfl
  · have k : ∀ q v m i, changesOnly [.track, .eval, .routing, .heads, .stackers, .tally, .cond, .ring] s
        (count i (recordVerdict q v m s)) := fun q v m i => (count_frame _ _).chain ((recordVerdict_frame s _ _ _).mono rfl) rfl
    refine (releaseSubject_frame _).chain ?_ rfl
    refine changesOnly.iteSame ?_ (k _ _ _ _)
    split
    · exact k _ _ _ _
    · exact (routingDecision_frame _ _ _).chain (k _ _ _ _) rfl
theorem completeEvaluation_frame :
    changesOnly [.track, .eval, .routing, .heads, .stackers, .tally, .cond, .ring] s (completeEvaluation s) := by
  unfold completeEvaluation
  split
  · exact changesOnly.refl _ s
  · split
    · exact (releaseSubject_frame s).mono rfl
    · split
      · exact (releaseSubject_frame s).mono rfl
      · exact completeSubject_frame s _

/-! ## Letter track -/

theorem closeLetter_frame (l L e f) : changesOnly [.track, .scan, .cond, .ring] s (closeLetter l L e f s) := by
  unfold closeLetter
  refine (setLastTrailing_frame _ _).chain ?_ rfl
  have a : ∀ g, changesOnly [.track, .scan, .cond, .ring] s (if f = true then setFlag .edgefault (modifyLetter l.seq g s)
      else modifyLetter l.seq g s) := fun g =>
    changesOnly.iteSame ((setFlag_frame _ _).chain ((modifyLetter_frame s _ _).mono rfl) rfl) ((modifyLetter_frame s _ _).mono rfl)
  exact changesOnly.iteSame ((setFlag_frame _ _).chain ((withScan_frame _ _).chain (a _) rfl) rfl)
    ((withScan_frame _ _).chain (a _) rfl)
theorem closeEdgelost_frame (l) : changesOnly [.track, .scan, .cond, .ring] s (closeEdgelost l s) :=
  closeLetter_frame s _ _ _ _
theorem completeDrain_frame : changesOnly [.track, .routing] s (completeDrain s) :=
  (setLastTrailing_frame _ _).chain ((emptyPlan_frame _).chain ((setMode_frame s _).mono rfl) rfl) rfl
theorem drainIfEmpty_frame : changesOnly [.track, .routing] s (drainIfEmpty s) :=
  changesOnly.iteSame (completeDrain_frame s) (changesOnly.refl _ s)
theorem stackerShare_frame (l c) : changesOnly [.stackers, .tally, .cond, .ring] s (stackerShare l c s) := by
  unfold stackerShare
  split
  · exact changesOnly.refl _ s
  · have r := fun n => (retireFrom_frame s n c).mono rfl (cs := [.stackers, .tally, .cond, .ring])
    cases c
    · exact (recomputeLamp_frame _ _).chain ((count_frame _ _).chain (r _) rfl) rfl
    · exact (recomputeLamp_frame _ _).chain ((setFlag_frame _ _).chain (r _) rfl) rfl
    · exact r _
theorem retire_frame (l c) :
    changesOnly [.track, .eval, .routing, .heads, .stackers, .tally, .cond, .ring] s (retire l c s) :=
  (drainIfEmpty_frame _).chain ((forgetSubject_frame _ _).chain ((removeBooking_frame _ _).chain
    ((stackerShare_frame _ _ _).chain ((count_frame _ _).chain ((removeLetter_frame s _).mono rfl) rfl) rfl) rfl) rfl) rfl
theorem abandonLetter_frame (l) : changesOnly [.stackers, .tally, .cond, .ring] s (abandonLetter count s l) := by
  unfold abandonLetter
  have k := (count_frame s (tallyOfRetirement .abandoned)).mono rfl (cs := [.stackers, .tally, .cond, .ring])
  split
  · exact k
  · exact (retireFrom_frame _ _ _).chain k rfl
theorem abandonLetterQuiet_frame (l) : changesOnly [.stackers, .tally] s (abandonLetter countQuiet s l) := by
  unfold abandonLetter
  have k := (countQuiet_frame s (tallyOfRetirement .abandoned)).mono rfl (cs := [.stackers, .tally])
  split
  · exact k
  · exact (retireFrom_frame _ _ _).chain k rfl
theorem abandonLetters_frame :
    changesOnly [.track, .scan, .eval, .routing, .stackers, .tally, .cond, .ring] s (abandonLetters count s) :=
  (emptyPlan_frame _).chain ((withScan_frame _ _).chain ((withEval_frame _ _).chain
    ((changesOnly.foldl (fun s l => abandonLetter_frame s l) _ _).chain ((withTrack_frame s _).mono rfl) rfl) rfl) rfl) rfl
theorem abandonLettersQuiet_frame :
    changesOnly [.track, .scan, .eval, .routing, .stackers, .tally] s (abandonLetters countQuiet s) :=
  (emptyPlan_frame _).chain ((withScan_frame _ _).chain ((withEval_frame _ _).chain
    ((changesOnly.foldl (fun s l => abandonLetterQuiet_frame s l) _ _).chain ((withTrack_frame s _).mono rfl) rfl) rfl) rfl) rfl
theorem enterStopped_frame :
    changesOnly [.track, .scan, .eval, .routing, .heads, .stackers, .tally, .cond, .ring] s (enterStopped s) :=
  (setMode_frame _ _).chain ((emptyBookings_frame _).chain ((recomputeLamps_frame _).chain ((abandonLetters_frame s).mono rfl) rfl) rfl) rfl
theorem declareLate_frame (l) :
    changesOnly [.track, .scan, .eval, .routing, .stackers, .tally, .cond, .ring] s (declareLate l s) := by
  unfold declareLate
  have a : changesOnly [.track, .scan, .eval, .routing, .stackers, .tally, .cond, .ring] s (match l.state with
      | .opened => setTrailExpected true (closeEdgelost l s)
      | .queued => dropFromQueue l.seq s
      | .evaluating => s
      | .routed => s) := by
    split
    · exact (setTrailExpected_frame _ _).chain ((closeEdgelost_frame s l).mono rfl) rfl
    · exact (dropFromQueue_frame s _).mono rfl
    · exact changesOnly.refl _ s
    · exact changesOnly.refl _ s
  simp only
  split
  · exact a
  · exact (lateDisposition_frame _ _ _).chain a rfl
theorem testDeadline_frame (q) :
    changesOnly [.track, .scan, .eval, .routing, .stackers, .tally, .cond, .ring] s (testDeadline q s) := by
  unfold testDeadline
  split
  · exact changesOnly.refl _ s
  · exact changesOnly.iteSame (declareLate_frame s _) (changesOnly.refl _ s)
theorem testWindowEnd_frame (q) :
    changesOnly [.track, .eval, .routing, .heads, .stackers, .tally, .cond, .ring] s (testWindowEnd q s) := by
  unfold testWindowEnd
  split
  · exact changesOnly.refl _ s
  · exact changesOnly.iteSame (retire_frame s _ _) (changesOnly.refl _ s)
theorem trackAdvance_frame :
    changesOnly [.track, .scan, .eval, .routing, .heads, .stackers, .tally, .cond, .ring] s (trackAdvance s) :=
  changesOnly.foldl (fun s q => (testWindowEnd_frame _ q).chain ((testDeadline_frame s q).mono rfl) rfl) _ s
theorem inOrder_frame (o) :
    changesOnly [.track, .scan, .eval, .routing, .heads, .stackers, .tally, .cond, .ring] s (inOrder o s) := by
  have r := fun u => (retirePlan_frame u).mono rfl
    (cs := [.track, .scan, .eval, .routing, .heads, .stackers, .tally, .cond, .ring])
  have e := fun u => (expireBookings_frame u).mono rfl
    (cs := [.track, .scan, .eval, .routing, .heads, .stackers, .tally, .cond, .ring])
  obtain ⟨c, d⟩ := o
  cases c <;> cases d <;> simp only [inOrder, Bool.false_eq_true, if_false, if_true]
  · exact (e _).chain ((r _).chain (trackAdvance_frame s) rfl) rfl
  · exact (e _).chain ((trackAdvance_frame _).chain (r s) rfl) rfl
  · exact (r _).chain ((trackAdvance_frame _).chain (e s) rfl) rfl
  · exact (trackAdvance_frame _).chain ((e _).chain (r s) rfl) rfl
theorem ownersAdvance_frame :
    changesOnly [.track, .scan, .eval, .routing, .heads, .stackers, .tally, .cond, .ring, .choices] s (ownersAdvance s) :=
  changesOnly.iteSame ((inOrder_frame s _).mono rfl) ((inOrder_frame _ _).chain ((withChoices_frame s _).mono rfl) rfl)
theorem takePosition_frame (f) :
    changesOnly [.position, .track, .scan, .eval, .routing, .heads, .stackers, .tally, .cond, .ring, .choices] s
      (takePosition f s) :=
  changesOnly.iteSame ((ownersAdvance_frame _).chain ((withPosition_frame s _).mono rfl) rfl) (changesOnly.refl _ s)
theorem admitLetter_frame (f) : changesOnly [.track, .scan, .tally, .cond, .ring] s (admitLetter f s) :=
  (withScan_frame _ _).chain ((count_frame _ _).chain ((withTrack_frame s _).mono rfl) rfl) rfl
theorem refuseLead_frame : changesOnly [.track, .tally, .cond, .ring] s (refuseLead s) :=
  (setTrailExpected_frame _ _).chain ((sendHalt_frame _ _).chain ((setFlag_frame _ _).chain ((count_frame s _).mono rfl) rfl) rfl) rfl
theorem leadEdgeAt_frame (f) : changesOnly [.track, .scan, .eval, .tally, .cond, .ring] s (leadEdgeAt f s) := by
  unfold leadEdgeAt
  refine changesOnly.iteSame ?_ ((setTrailExpected_frame _ _).chain ((count_frame s _).mono rfl) rfl)
  have a : changesOnly [.track, .scan, .eval, .tally, .cond, .ring] s (setTrailExpected false (match openLetter s with
      | none => s
      | some l => queueLetter l.seq (closeEdgelost l s))) := by
    refine (setTrailExpected_frame _ _).chain ?_ rfl
    split
    · exact changesOnly.refl _ s
    · exact (queueLetter_frame _ _).chain ((closeEdgelost_frame s _).mono rfl) rfl
  exact changesOnly.iteSame ((admitLetter_frame _ _).chain a rfl) ((refuseLead_frame _).chain a rfl)
theorem looseTrail_frame (x) : changesOnly [.track, .cond, .ring] s (looseTrail x s) := by
  unfold looseTrail
  split
  · exact changesOnly.iteSame ((setLastTrailing_frame _ _).chain ((setTrailExpected_frame s _).mono rfl) rfl)
      ((setTrailExpected_frame s _).mono rfl)
  · exact changesOnly.iteSame ((setFlag_frame _ _).chain ((withTrack_frame s _).mono rfl) rfl) ((withTrack_frame s _).mono rfl)
theorem trailEdgeAt_frame (x) : changesOnly [.track, .scan, .eval, .cond, .ring] s (trailEdgeAt x s) := by
  unfold trailEdgeAt
  split
  · exact (queueLetter_frame _ _).chain ((closeLetter_frame s _ _ _ _).mono rfl) rfl
  · exact (looseTrail_frame s x).mono rfl
theorem arriveAt_frame (n x) :
    changesOnly [.track, .eval, .routing, .heads, .stackers, .tally, .cond, .ring] s (arriveAt n x s) := by
  unfold arriveAt
  split
  · exact retire_frame s _ _
  · exact (setFlag_frame _ _).chain ((count_frame s _).mono rfl) rfl
theorem arriveReport_frame (n x) :
    changesOnly [.track, .eval, .routing, .heads, .stackers, .tally, .cond, .ring] s (arriveReport n x s) := by
  unfold arriveReport
  split
  · exact arriveAt_frame s _ x
  · exact (countStrayReport_frame s).mono rfl

/-! ## Table store -/

theorem abortLoad_frame : changesOnly [.store, .cond, .ring] s (abortLoad s) :=
  (setFlag_frame _ _).chain ((setLoad_frame s _).mono rfl) rfl
theorem commitEffects_frame (t) : changesOnly [.position, .stackers, .cond, .ring] s (commitEffects t s) := by
  cases t
  · exact changesOnly.refl _ s
  · exact changesOnly.refl _ s
  · exact changesOnly.refl _ s
  · exact (recomputeLamps_frame _).chain ((formDistances_frame s _).mono rfl) rfl
  · exact (formDistances_frame s _).mono rfl
  · exact changesOnly.refl _ s
  · exact changesOnly.refl _ s
  · exact (reissueLamps_frame s).mono rfl
theorem commitLoad_frame (l) : changesOnly [.position, .stackers, .store, .cond, .ring] s (commitLoad l s) :=
  (commitEffects_frame _ _).chain ((withStore_frame s _).mono rfl) rfl

end

end Sys2Proof.Machine
end

