-- ==== Sys2Proof/Laws/InputFrames.lean ====
section
/-! SUPPORT. Which blocks the asks, the ring input and the timebase may change. No operation of the part touches the queue of
commands. -/

namespace Sys2Proof.Machine

section
variable (s : State)

/-- The blocks that some ask changes. -/
def askBlocks : List Block :=
  [.position, .track, .scan, .eval, .routing, .heads, .clock, .stackers, .tally, .store, .cond, .ring]

/-! ## The asks -/

theorem serveLinkStatus_frame : changesOnly [.ring] s (serveLinkStatus s).state := modifyCounters_frame s _
theorem applyMode_frame (m) :
    changesOnly [.track, .scan, .eval, .routing, .heads, .stackers, .tally, .cond, .ring] s (applyMode m s) := by
  cases m
  · exact enterStopped_frame s
  · exact (setMode_frame s _).mono rfl
  · exact (drainIfEmpty_frame _).chain ((setMode_frame s _).mono rfl) rfl
  · exact (setMode_frame s _).mono rfl
theorem applyEntry_frame (e) : changesOnly [.track, .heads, .tally, .cond, .ring] s (applyEntry s e) :=
  changesOnly.iteSame ((enableHead_frame s _).mono rfl) (disableHead_frame s _)
theorem modeTests_frame (m es) :
    changesOnly [.track, .scan, .eval, .routing, .heads, .stackers, .tally, .cond, .ring] s (modeTests m es s).state := by
  unfold modeTests
  split
  · exact (setFlag_frame s _).mono rfl
  · split
    · exact changesOnly.refl _ s
    · exact (changesOnly.foldl (fun s e => applyEntry_frame s e) _ _).chain (applyMode_frame s _) rfl
theorem serveMode_frame (t e) :
    changesOnly [.track, .scan, .eval, .routing, .heads, .stackers, .tally, .cond, .ring] s (serveMode t e s).state := by
  unfold serveMode
  split
  · split
    · exact changesOnly.refl _ s
    · exact modeTests_frame s _ _
  · exact changesOnly.refl _ s
theorem serveTableOpen_frame (t f n) : changesOnly [.store] s (serveTableOpen t f n s).state := by
  unfold serveTableOpen
  split
  · exact changesOnly.refl _ s
  · split
    · exact changesOnly.refl _ s
    · split
      · exact changesOnly.refl _ s
      · exact setLoad_frame s _
theorem serveTableRow_frame (r) : changesOnly [.store, .cond, .ring] s (serveTableRow r s).state := by
  unfold serveTableRow
  split
  · exact changesOnly.refl _ s
  · split
    · exact changesOnly.refl _ s
    · split
      · exact abortLoad_frame s
      · exact (setLoad_frame s _).mono rfl
theorem serveTableCommit_frame (x) :
    changesOnly [.position, .stackers, .store, .cond, .ring] s (serveTableCommit x s).state := by
  unfold serveTableCommit
  have a := (abortLoad_frame s).mono rfl (cs := [.position, .stackers, .store, .cond, .ring])
  split
  · exact changesOnly.refl _ s
  · split
    · exact changesOnly.refl _ s
    · split
      · exact a
      · split
        · exact a
        · split
          · exact a
          · split
            · exact a
            · exact commitLoad_frame s _
theorem serveTableAbort_frame : changesOnly [.store] s (serveTableAbort s).state := setLoad_frame s _
theorem tableReadFrom_frame (k t r) : changesOnly [.store] s (tableReadFrom k t r s).state := by
  unfold tableReadFrom
  split
  · exact changesOnly.refl _ s
  · exact withStore_frame s _
theorem serveTableRead_frame (k p) : changesOnly [.store] s (serveTableRead k p s).state := by
  unfold serveTableRead
  split
  · exact tableReadFrom_frame s _ _ _
  · split
    · exact changesOnly.refl _ s
    · exact tableReadFrom_frame s _ _ _
theorem serveProtect_frame (ids) : changesOnly [.store] s (serveProtect ids s).state := by
  unfold serveProtect
  split
  · exact changesOnly.refl _ s
  · split
    · exact changesOnly.refl _ s
    · exact withStore_frame s _
theorem serveTallyFreeze_frame (o) : changesOnly [.tally] s (serveTallyFreeze o s).state := by
  unfold serveTallyFreeze
  split
  · exact withTally_frame s _
  · exact changesOnly.refl _ s
theorem serveTallyRead_frame (k i) : changesOnly [.tally] s (serveTallyRead k i s).state := by
  cases i <;> simp only [serveTallyRead] <;> split <;> first | exact changesOnly.refl _ s | exact withTally_frame s _
theorem serveClockSet_frame (y m d h mi se w) : changesOnly [.clock] s (serveClockSet y m d h mi se w s).state := by
  unfold serveClockSet
  simp only
  split
  · exact withClock_frame s _
  · exact changesOnly.refl _ s
theorem serveFlagsClear_frame (w) : changesOnly [.cond] s (serveFlagsClear w s).state := withCond_frame s _
theorem serveMaskSet_frame (w) : changesOnly [.cond] s (serveMaskSet w s).state := withCond_frame s _
theorem serveHeadControl_frame (h a) :
    changesOnly [.track, .heads, .tally, .cond, .ring] s (serveHeadControl h a s).state := by
  unfold serveHeadControl
  split
  · simp only
    split
    · exact changesOnly.refl _ s
    · exact headAction_frame s _ _
  · exact changesOnly.refl _ s
theorem serveStackerSweep_frame (w) : changesOnly [.stackers, .cond, .ring] s (serveStackerSweep w s).state :=
  changesOnly.foldl (fun s n => sweep_frame s n) _ s
theorem serveTrackRead_frame (q) : changesOnly [.track] s (serveTrackRead q s).state := withTrack_frame s _

theorem served_ite {cs : List Block} {p : Prop} [Decidable p] {a b : Served} (h : changesOnly cs s a.state)
    (k : changesOnly cs s b.state) : changesOnly cs s (if p then a else b).state := by
  split
  · exact h
  · exact k

/-- Serving an ask leaves the timebase, the count of choices and the queue of commands. -/
theorem serve_frame (c args) : changesOnly askBlocks s (serve c args s).state := by
  have bad : changesOnly askBlocks s (badLength s).state := changesOnly.refl _ s
  have same : ∀ r : Served, r.state = s → changesOnly askBlocks s r.state := fun r h => h ▸ changesOnly.refl _ _
  refine served_ite s (served_ite s (same _ rfl) bad) ?_
  refine served_ite s (same _ rfl) ?_
  refine served_ite s (served_ite s ((serveLinkStatus_frame s).mono rfl) bad) ?_
  refine served_ite s ?_ ?_
  · split
    · exact served_ite s ((serveMode_frame s _ _).mono rfl) bad
    · exact bad
  refine served_ite s bad ?_
  refine served_ite s ?_ ?_
  · split
    · exact (serveTableOpen_frame s _ _ _).mono rfl
    · exact bad
  refine served_ite s ((serveTableRow_frame s _).mono rfl) ?_
  refine served_ite s ?_ ?_
  · split
    · exact (serveTableCommit_frame s _).mono rfl
    · exact bad
  refine served_ite s (served_ite s ((serveTableAbort_frame s).mono rfl) bad) ?_
  refine served_ite s ?_ ?_
  · split
    · exact (serveTableRead_frame s _ _).mono rfl
    · exact (serveTableRead_frame s _ _).mono rfl
    · exact bad
  refine served_ite s (served_ite s ((serveProtect_frame s _).mono rfl) bad) ?_
  refine served_ite s ?_ ?_
  · split
    · exact (serveTallyFreeze_frame s _).mono rfl
    · exact bad
  refine served_ite s ?_ ?_
  · split
    · exact (serveTallyRead_frame s _ _).mono rfl
    · exact (serveTallyRead_frame s _ _).mono rfl
    · exact bad
  refine served_ite s ?_ ?_
  · split
    · exact (serveClockSet_frame s _ _ _ _ _ _ _).mono rfl
    · exact bad
  refine served_ite s (served_ite s (same _ rfl) bad) ?_
  refine served_ite s (served_ite s (same _ rfl) bad) ?_
  refine served_ite s ?_ ?_
  · split
    · exact (serveFlagsClear_frame s _).mono rfl
    · exact bad
  refine served_ite s ?_ ?_
  · split
    · exact (serveMaskSet_frame s _).mono rfl
    · exact bad
  refine served_ite s ?_ ?_
  · split
    · exact (serveHeadControl_frame s _ _).mono rfl
    · exact bad
  refine served_ite s ?_ ?_
  · split
    · exact (serveStackerSweep_frame s _).mono rfl
    · exact bad
  refine served_ite s ?_ (same _ rfl)
  split
  · exact (serveTrackRead_frame s _).mono rfl
  · exact (serveTrackRead_frame s _).mono rfl
  · exact bad

/-! ## The intake -/

theorem joinParts_frame (d c st) (ds : List (List Byte)) :
    ∀ n s, changesOnly [.ring] s (joinParts d c st n ds s) := by
  induction ds with
  | nil => exact fun n s => changesOnly.refl _ s
  | cons x xs ih =>
    intro n s
    cases xs with
    | nil => exact joinAnswer_frame s _
    | cons y ys => exact (joinAnswer_frame s _).trans (ih _ _)
theorem joinWhole_frame (d c r) : changesOnly [.ring] r.state (joinWhole d c r) := joinParts_frame _ _ _ _ _ _
theorem resetBlocks_frame :
    changesOnly [.track, .scan, .eval, .routing, .heads, .stackers, .tally, .store] s (resetBlocks s) :=
  (setLoad_frame _ _).chain ((withStackers_frame _ _).chain ((setMode_frame _ _).chain ((resetHeads_frame _).chain
    ((abandonLettersQuiet_frame s).mono rfl) rfl) rfl) rfl) rfl
theorem resyncLamp_frame (n) : changesOnly [.stackers, .ring] s (resyncLamp s n) :=
  (issueLamp_frame _ _).chain ((modifyStacker_frame s _ _).mono rfl) rfl
theorem laneReset_frame (q) :
    changesOnly [.track, .scan, .eval, .routing, .heads, .stackers, .tally, .store, .cond, .ring] s (laneReset q s) :=
  (withCond_frame _ _).chain ((changesOnly.foldl (fun s n => resyncLamp_frame s n) _ _).chain ((joinAnswer_frame _ _).chain
    ((withRing_frame _ _).chain ((resetBlocks_frame s).mono rfl) rfl) rfl) rfl) rfl
theorem serveAsk_frame (a) : changesOnly askBlocks s (serveAsk a s) :=
  changesOnly.iteSame ((laneReset_frame s _).mono rfl)
    ((joinWhole_frame _ _ _).chain ((setReserved_frame _ _).chain ((serve_frame _ _ _).chain
      ((setReserved_frame s _).mono rfl) rfl) rfl) rfl)
theorem serveAsks_frame (n : Nat) : ∀ s, changesOnly askBlocks s (serveAsks n s) := by
  induction n with
  | zero => exact fun s => changesOnly.refl _ s
  | succ n ih =>
    intro s
    unfold serveAsks
    split
    · exact changesOnly.refl _ s
    · exact changesOnly.iteSame ((ih _).chain ((serveAsk_frame _ _).chain ((popIntake_frame s).mono rfl) rfl) rfl)
        (changesOnly.refl _ s)
theorem serveIntake_frame : changesOnly askBlocks s (serveIntake s) := serveAsks_frame _ s
theorem takeAsk_frame (q c args) : changesOnly askBlocks s (takeAsk q c args s) := by
  unfold takeAsk
  split
  · exact (modifyCounters_frame s _).mono rfl
  · exact changesOnly.iteSame ((serveIntake_frame _).chain ((withRing_frame s _).mono rfl) rfl) ((withRing_frame s _).mono rfl)

/-! ## The ring input -/

/-- The blocks that some frame changes. -/
def frameBlocks : List Block := askBlocks ++ [.choices]

theorem discardBadFrame_frame : changesOnly [.cond, .ring] s (discardBadFrame s) :=
  (setFlag_frame _ _).chain ((modifyCounters_frame s _).mono rfl) rfl
theorem forwardFrame_frame (f) : changesOnly [.cond, .ring] s (forwardFrame f s) :=
  changesOnly.iteSame ((joinForward_frame s f).mono rfl) ((setFlag_frame _ _).chain ((modifyCounters_frame s _).mono rfl) rfl)
theorem takeMessage_frame (q m) : changesOnly frameBlocks s (takeMessage q m s) := by
  cases m
  · exact (takePosition_frame s _).mono rfl
  · exact (leadEdgeAt_frame _ _).chain ((takePosition_frame s _).mono rfl) rfl
  · exact (trailEdgeAt_frame _ _).chain ((takePosition_frame s _).mono rfl) rfl
  · exact (takeLine_frame _ _ _ _).chain ((takePosition_frame s _).mono rfl) rfl
  · exact (arriveReport_frame s _ _).mono rfl
  · exact (sweptReport_frame s _).mono rfl
  · exact (headfaultReport_frame s _ _).mono rfl
  · exact (purgedoneReport_frame s _ _).mono rfl
  · exact (takeAsk_frame s _ _ _).mono rfl
theorem takeFrame_frame (f) : changesOnly frameBlocks s (takeFrame f s) := by
  unfold takeFrame
  split
  · exact takeMessage_frame s _ _
  · exact (countUnknownKind_frame s).mono rfl
theorem routeFrame_frame (f : Frame) (taken : State → State) (h : ∀ s, changesOnly frameBlocks s (taken s)) :
    changesOnly frameBlocks s (routeFrame f taken s) :=
  changesOnly.iteSame (changesOnly.refl _ s) (changesOnly.iteSame (h s)
    (changesOnly.iteSame ((h _).chain ((forwardFrame_frame s f).mono rfl) rfl) ((forwardFrame_frame s f).mono rfl)))
theorem receive_frame (f) : changesOnly frameBlocks s (receive f s) :=
  changesOnly.iteSame ((discardBadFrame_frame s).mono rfl) (routeFrame_frame s f _ fun s => takeFrame_frame s f)
theorem receiveBytes_frame (bs) : changesOnly frameBlocks s (receiveBytes bs s) := by
  unfold receiveBytes
  split
  · exact (discardBadFrame_frame s).mono rfl
  · exact receive_frame s _
theorem deliver_frame (d q m) : changesOnly frameBlocks s (deliver d q m s) :=
  changesOnly.iteSame ((discardBadFrame_frame s).mono rfl) (routeFrame_frame s _ _ fun s => takeMessage_frame s _ m)

/-! ## The timebase -/

theorem windowMillisecond_frame (h) : changesOnly [.heads] s (windowMillisecond h s) := by
  unfold windowMillisecond
  split
  · exact changesOnly.refl _ s
  · exact changesOnly.iteSame (windowExpiry_frame s h) (modifyHead_frame s _ _)
theorem purgeMillisecond_frame (h) : changesOnly [.heads, .cond, .ring] s (purgeMillisecond h s) := by
  unfold purgeMillisecond
  split
  · exact changesOnly.refl _ s
  · exact changesOnly.iteSame (purgeExpiry_frame s h) ((modifyHead_frame s _ _).mono rfl)
theorem restartMillisecond_frame (h) : changesOnly [.heads] s (restartMillisecond h s) := by
  unfold restartMillisecond
  split
  · exact changesOnly.refl _ s
  · exact changesOnly.iteSame (restartExpiry_frame s h) (modifyHead_frame s _ _)
theorem headMillisecond_frame (h) : changesOnly [.heads, .cond, .ring] s (headMillisecond s h) :=
  (restartMillisecond_frame _ h).chain ((purgeMillisecond_frame _ h).chain ((windowMillisecond_frame s h).mono rfl) rfl) rfl
theorem millisecondEvent_frame : changesOnly [.heads, .cond, .ring] s (millisecondEvent s) :=
  changesOnly.foldl (fun s h => headMillisecond_frame s h) _ s
theorem millisecondTick_frame : changesOnly [.heads, .cond, .ring, .time] s (millisecondTick s) :=
  changesOnly.iteSame ((withTime_frame s _).mono rfl) ((millisecondEvent_frame _).chain ((withTime_frame s _).mono rfl) rfl)
theorem secondTick_frame : changesOnly [.clock] s (secondTick s) :=
  changesOnly.iteSame (withClock_frame s _) (secondEventAt_frame s)
theorem timebaseTick_frame : changesOnly [.heads, .clock, .cond, .ring, .time] s (timebaseTick s) :=
  changesOnly.iteSame (changesOnly.refl _ s) ((secondTick_frame _).chain ((millisecondTick_frame s).mono rfl) rfl)
theorem grantNext_frame : changesOnly askBlocks s (grantNext s) :=
  changesOnly.iteSame ((serveIntake_frame _).chain ((grant_frame s).mono rfl) rfl) ((grant_frame s).mono rfl)
theorem completeSending_frame : changesOnly askBlocks s (completeSending s) :=
  changesOnly.iteSame ((grantNext_frame _).chain ((withRing_frame s _).mono rfl) rfl) (changesOnly.refl _ s)

end

end Sys2Proof.Machine
end

