-- ==== Sys2Proof/Laws/Ring.lean ====
section
/-! SUPPORT. What the shared operations of the ring port, the condition unit and the tally unit can do, each said once. -/

namespace Sys2Proof.Machine

/-! ## The grant (R179, R180) -/

theorem grantRing_sending {r : RingPort} (h : r.sending.isSome = true) : grantRing r = r := if_pos h

theorem grantForward_cons {r : RingPort} {f : Frame} {fs : List Frame} (h : r.forward = f :: fs) :
    grantForward r = { r with forward := fs, sending := some f, turn := .answer } := by
  simp only [grantForward, h]

theorem grantAnswer_cons {r : RingPort} {a : Reply} {as : List Reply} (h : r.answers = a :: as) :
    grantAnswer r = { r with answers := as, sending := some (replyFrame r.own a), turn := .forward } := by
  simp only [grantAnswer, h]

theorem grantOrder_cons {r : RingPort} {o : OrderFrame} {os : List OrderFrame} (h : r.orders = o :: os)
    (w : r.waiting = []) : grantOrder r = { r with orders := os, sending := some (orderFrame r.own o) } := by
  simp only [grantOrder, h, w]

theorem grantOrder_cons_waiting {r : RingPort} {o : OrderFrame} {os : List OrderFrame} {x : Waiting} {ws : List Waiting}
    (h : r.orders = o :: os) (w : r.waiting = x :: ws) :
    grantOrder r = { r with orders := os ++ [x.order], waiting := ws, sending := some (orderFrame r.own o) } := by
  simp only [grantOrder, h, w]

/-- Everything a grant can do. -/
theorem grantRing_cases (r : RingPort) :
    (r.sending.isSome = true ∧ grantRing r = r)
    ∨ (r.sending = none ∧ r.orders ≠ [] ∧ grantRing r = grantOrder r)
    ∨ (r.sending = none ∧ r.orders = [] ∧ r.forward ≠ [] ∧ (r.answers = [] ∨ r.turn = .forward)
        ∧ grantRing r = grantForward r)
    ∨ (r.sending = none ∧ r.orders = [] ∧ (r.forward = [] ∨ r.answers ≠ [] ∧ r.turn = .answer)
        ∧ grantRing r = grantAnswer r) := by
  unfold grantRing
  cases hs : r.sending with
  | some x => simp
  | none =>
    by_cases ho : r.orders = []
    · by_cases hf : r.forward = []
      · simp [ho, hf]
      · cases ha : r.answers with
        | nil => simp [ho, hf]
        | cons a as => cases ht : r.turn <;> simp [ho, hf]
    · simp [ho]

/-- What a grant keeps. -/
theorem grantRing_own (r : RingPort) : (grantRing r).own = r.own := by
  rcases grantRing_cases r with ⟨-, h⟩ | ⟨-, -, h⟩ | ⟨-, -, -, -, h⟩ | ⟨-, -, -, h⟩ <;> rw [h]
  · unfold grantOrder; split <;> [rfl; split <;> rfl]
  · unfold grantForward; split <;> rfl
  · unfold grantAnswer; split <;> rfl

@[inherit_doc grantRing_own]
theorem grantRing_counters (r : RingPort) : (grantRing r).counters = r.counters := by
  rcases grantRing_cases r with ⟨-, h⟩ | ⟨-, -, h⟩ | ⟨-, -, -, -, h⟩ | ⟨-, -, -, h⟩ <;> rw [h]
  · unfold grantOrder; split <;> [rfl; split <;> rfl]
  · unfold grantForward; split <;> rfl
  · unfold grantAnswer; split <;> rfl

@[inherit_doc grantRing_own]
theorem grantRing_intake (r : RingPort) : (grantRing r).intake = r.intake := by
  rcases grantRing_cases r with ⟨-, h⟩ | ⟨-, -, h⟩ | ⟨-, -, -, -, h⟩ | ⟨-, -, -, h⟩ <;> rw [h]
  · unfold grantOrder; split <;> [rfl; split <;> rfl]
  · unfold grantForward; split <;> rfl
  · unfold grantAnswer; split <;> rfl

@[inherit_doc grantRing_own]
theorem grantRing_reserved (r : RingPort) : (grantRing r).reserved = r.reserved := by
  rcases grantRing_cases r with ⟨-, h⟩ | ⟨-, -, h⟩ | ⟨-, -, -, -, h⟩ | ⟨-, -, -, h⟩ <;> rw [h]
  · unfold grantOrder; split <;> [rfl; split <;> rfl]
  · unfold grantForward; split <;> rfl
  · unfold grantAnswer; split <;> rfl

/-- A grant at a port that holds a frame, or sends one, leaves the output SENDING. -/
theorem grantRing_sends {r : RingPort} (h : r.sending.isSome = true ∨ r.orders ≠ [] ∨ r.forward ≠ [] ∨ r.answers ≠ []) :
    (grantRing r).sending.isSome = true := by
  rcases grantRing_cases r with ⟨k, e⟩ | ⟨-, k, e⟩ | ⟨-, -, k, -, e⟩ | ⟨i, o, k, e⟩ <;> rw [e]
  · exact k
  · obtain ⟨x, xs, hx⟩ := List.exists_cons_of_ne_nil k
    cases hw : r.waiting with
    | nil => rw [grantOrder_cons hx hw]; rfl
    | cons w ws => rw [grantOrder_cons_waiting hx hw]; rfl
  · obtain ⟨x, xs, hx⟩ := List.exists_cons_of_ne_nil k
    rw [grantForward_cons hx]; rfl
  · have a : r.answers ≠ [] := by
      rcases k with k | k
      · rcases h with h | h | h | h
        · rw [i] at h; exact absurd h (by decide)
        · exact absurd o h
        · exact absurd k h
        · exact h
      · exact k.1
    obtain ⟨x, xs, hx⟩ := List.exists_cons_of_ne_nil a
    rw [grantAnswer_cons hx]; rfl

/-! ## Joining -/

section
variable (s : State)

/-- While a frame is being sent a joining order only joins. -/
theorem joinOrder_sending {s : State} (h : s.ring.sending.isSome = true) (o : OrderFrame) :
    joinOrder o s = s.withRing { s.ring with orders := s.ring.orders ++ [o] } := by
  rw [joinOrder, grant, grantRing_sending (by simpa using h)]; rfl

/-- While a frame is being sent a joining answer or notice only joins. -/
theorem joinAnswer_sending {s : State} (h : s.ring.sending.isSome = true) (a : Reply) :
    joinAnswer a s = s.withRing { s.ring with answers := s.ring.answers ++ [a] } := by
  rw [joinAnswer, grant, grantRing_sending (by simpa using h)]; rfl

/-- While a frame is being sent a joining forwarded frame only joins. -/
theorem joinForward_sending {s : State} (h : s.ring.sending.isSome = true) (f : Frame) :
    joinForward f s = s.withRing { s.ring with forward := s.ring.forward ++ [f] } := by
  rw [joinForward, grant, grantRing_sending (by simpa using h)]; rfl

theorem joinOrder_sends (o : OrderFrame) : (joinOrder o s).ring.sending.isSome = true :=
  grantRing_sends (.inr (.inl (by simp)))

theorem joinAnswer_sends (a : Reply) : (joinAnswer a s).ring.sending.isSome = true :=
  grantRing_sends (.inr (.inr (.inr (by simp))))

theorem joinForward_sends (f : Frame) : (joinForward f s).ring.sending.isSome = true :=
  grantRing_sends (.inr (.inr (.inl (by simp))))

/-- Everything the issue of a LAMP, PURGE or ABORT order can do (R180). -/
theorem issueOrder_cases (p : WaitPlace) (o : OrderFrame) :
    (s.ring.orders.length < orderCapacity ∧ issueOrder p o s = joinOrder o s)
    ∨ (orderCapacity ≤ s.ring.orders.length
        ∧ issueOrder p o s = s.withRing { s.ring with waiting := takePlace p o s.ring.waiting }) := by
  by_cases h : s.ring.orders.length < orderCapacity
  · exact .inl ⟨h, if_pos h⟩
  · exact .inr ⟨Nat.le_of_not_lt h, if_neg h⟩

/-! ## Waiting places (R180) -/

/-- The places that are occupied after an order takes its place. -/
theorem mem_takePlace (p : WaitPlace) (o : OrderFrame) (ws : List Waiting) (q : WaitPlace) :
    q ∈ (takePlace p o ws).map Waiting.place ↔ q = p ∨ q ∈ ws.map Waiting.place := by
  induction ws with
  | nil => simp [takePlace]
  | cons w ws ih =>
    by_cases h : w.place = p
    · subst h; simp [takePlace]
    · simp only [takePlace, h, if_false, List.map_cons, List.mem_cons, ih]
      constructor <;> rintro (a | a | a) <;> simp [a]

/-- Each place still holds one order. -/
theorem takePlace_nodup (p : WaitPlace) (o : OrderFrame) (ws : List Waiting) (h : (ws.map Waiting.place).Nodup) :
    ((takePlace p o ws).map Waiting.place).Nodup := by
  induction ws with
  | nil => simp [takePlace]
  | cons w ws ih =>
    simp only [List.map_cons, List.nodup_cons] at h
    by_cases e : w.place = p
    · subst e; simpa [takePlace] using h
    · simp only [takePlace, e, if_false, List.map_cons, List.nodup_cons]
      exact ⟨fun m => ((mem_takePlace p o ws w.place).1 m).elim e h.1, ih h.2⟩

/-! ## Flags and notices (R186, R188) -/

/-- Everything the raising of a notice can do. -/
theorem sendNotice_cases (n : Reply) :
    (freeAnswerPlaces s = 0
        ∧ sendNotice n s
            = markFlag .noticedrop (modifyCounters (fun c => { c with noticeDrop := satInc16 c.noticeDrop }) s))
    ∨ (freeAnswerPlaces s ≠ 0 ∧ sendNotice n s = joinAnswer n s) := by
  by_cases h : freeAnswerPlaces s = 0
  · exact .inl ⟨h, if_pos h⟩
  · exact .inr ⟨h, if_neg h⟩

/-- Everything the setting of a flag can do. -/
theorem setFlag_cases (f : ConditionFlag) :
    (flagSet s f = true ∧ setFlag f s = s)
    ∨ (flagSet s f = false ∧ (flagMasked s f = true ∨ f = .noticedrop) ∧ setFlag f s = markFlag f s)
    ∨ (flagSet s f = false ∧ flagMasked s f = false ∧ f ≠ .noticedrop
        ∧ setFlag f s = sendNotice (.alert (noticeStation s) f) (markFlag f s)) := by
  unfold setFlag
  cases h : flagSet s f with
  | true => simp
  | false =>
    cases m : flagMasked s f with
    | true => simp
    | false => by_cases e : f = .noticedrop <;> simp [e]

theorem markFlag_flags (f : ConditionFlag) : (markFlag f s).cond.flags = s.cond.flags ||| flagBit f := rfl
theorem markFlag_mask (f : ConditionFlag) : (markFlag f s).cond.mask = s.cond.mask := rfl

/-- A notice changes no flag but NOTICEDROP, and not the mask. -/
theorem sendNotice_cond (n : Reply) :
    ((sendNotice n s).cond = s.cond)
    ∨ (sendNotice n s).cond = { s.cond with flags := s.cond.flags ||| flagBit .noticedrop } := by
  rcases sendNotice_cases s n with ⟨-, h⟩ | ⟨-, h⟩ <;> rw [h]
  · exact .inr rfl
  · exact .inl (joinAnswer_frame s n .cond (by decide))

/-- A flag stays set once it is set, whichever flag is raised. -/
theorem setFlag_keeps (f : ConditionFlag) (i : Nat) (h : s.cond.flags.getLsbD i = true) :
    (setFlag f s).cond.flags.getLsbD i = true := by
  rcases setFlag_cases s f with ⟨-, e⟩ | ⟨-, -, e⟩ | ⟨-, -, -, e⟩ <;> rw [e]
  · exact h
  · simp [markFlag_flags, h]
  · rcases sendNotice_cond (markFlag f s) (.alert (noticeStation s) f) with e | e <;> rw [e] <;> simp [markFlag_flags, h]

theorem flagBit_getLsbD (f : ConditionFlag) : (flagBit f).getLsbD (flagNumber f) = true := by cases f <;> decide

/-- The flag that is raised is set. -/
theorem setFlag_sets (f : ConditionFlag) : flagSet (setFlag f s) f = true := by
  rcases setFlag_cases s f with ⟨k, e⟩ | ⟨-, -, e⟩ | ⟨-, -, -, e⟩ <;> rw [e]
  · exact k
  · simp [flagSet, markFlag_flags, flagBit_getLsbD]
  · rcases sendNotice_cond (markFlag f s) (.alert (noticeStation s) f) with e | e <;>
      simp [flagSet, e, markFlag_flags, flagBit_getLsbD]

/-- The mask is not changed by the raising of a flag. -/
theorem setFlag_mask (f : ConditionFlag) : (setFlag f s).cond.mask = s.cond.mask := by
  rcases setFlag_cases s f with ⟨-, e⟩ | ⟨-, -, e⟩ | ⟨-, -, -, e⟩ <;> rw [e]
  · rfl
  · rcases sendNotice_cond (markFlag f s) (.alert (noticeStation s) f) with e | e <;> rw [e] <;> rfl

/-! ## Tallies (R149, R150) -/

/-- Everything a count can do. -/
theorem count_cases (i : Fin 64) :
    (s.tally.live[i] ≠ BitVec.allOnes 32
        ∧ count i s = s.withTally { s.tally with live := s.tally.live.set i.val (s.tally.live[i] + 1) i.isLt })
    ∨ (s.tally.live[i] = BitVec.allOnes 32
        ∧ count i s = setFlag .tallywrap (s.withTally { s.tally with
            live := s.tally.live.set i.val 0 i.isLt
            liveMarks := s.tally.liveMarks.set i.val true i.isLt })) := by
  by_cases h : s.tally.live[i] = BitVec.allOnes 32
  · exact .inr ⟨h, (if_pos h).trans (by rw [countLive, if_pos h])⟩
  · exact .inl ⟨h, (if_neg h).trans (by rw [countLive, if_neg h])⟩

end

end Sys2Proof.Machine
end

