-- ==== Sys2Proof/Laws/Units.lean ====
section
/-! SUPPORT. What the shared operations of the letter records, the heads, the stackers, the tallies and the evaluation unit do to the
block they own. -/

namespace Sys2Proof.Machine

variable (s : State)

/-! ## Letter records -/

@[simp] theorem modifyLetter_letters (q : Seq) (f : Letter → Letter) :
    (modifyLetter q f s).track.letters = s.track.letters.map fun l => if l.seq = q then f l else l := rfl

/-- A change that keeps the number keeps every number of the track. -/
theorem modifyLetter_seqs (q : Seq) (f : Letter → Letter) (h : ∀ l, (f l).seq = l.seq) :
    (modifyLetter q f s).track.letters.map Letter.seq = s.track.letters.map Letter.seq := by
  rw [modifyLetter_letters, List.map_map]
  refine List.map_congr_left fun l _ => ?_
  by_cases e : l.seq = q <;> simp [e, h]

/-- A letter found has the number sought and is in the track. -/
theorem findLetter_spec {q : Seq} {l : Letter} (h : findLetter s q = some l) : l ∈ s.track.letters ∧ l.seq = q :=
  ⟨List.mem_of_find?_eq_some h, by simpa using List.find?_some h⟩

/-- With distinct numbers a letter of the track is the one found by its number. -/
theorem findLetter_of_mem (h : (s.track.letters.map Letter.seq).Nodup) {l : Letter} (m : l ∈ s.track.letters) :
    findLetter s l.seq = some l := by
  unfold findLetter
  cases e : s.track.letters.find? fun k => k.seq = l.seq with
  | none => simpa using List.find?_eq_none.mp e l m
  | some k =>
    have hk := List.mem_of_find?_eq_some e
    have hs : k.seq = l.seq := by simpa using List.find?_some e
    rw [List.inj_on_of_nodup_map h hk m hs]

@[simp] theorem removeLetter_letters (q : Seq) :
    (removeLetter q s).track.letters = s.track.letters.filter fun l => l.seq ≠ q := rfl

/-! ## Heads -/

/-- One head after the change of a head. -/
theorem modifyHead_get (h j : Fin 4) (f : Head → Head) :
    (modifyHead h f s).heads[j] = if j = h then f s.heads[j] else s.heads[j] := updateAt_get s.heads h j f

/-- A start of a purge: one order is issued, and the head is PURGING with its timer started. -/
theorem startPurge_heads (h j : Fin 4) :
    (startPurge h s).heads[j]
      = if j = h then { s.heads[j] with
          purge := some (startTimer (purgeTimeoutLength s)), state := .purging } else s.heads[j] := by
  have hs : (issueOrder (.purge h) ⟨headStation s.store.tables h, .purge h⟩ s).heads = s.heads :=
    issueOrder_frame s _ _ .heads (by decide)
  have ht : (issueOrder (.purge h) ⟨headStation s.store.tables h, .purge h⟩ s).store = s.store :=
    issueOrder_frame s _ _ .store (by decide)
  have hd : purgeTimeoutLength (issueOrder (.purge h) ⟨headStation s.store.tables h, .purge h⟩ s) = purgeTimeoutLength s := by
    rw [purgeTimeoutLength, purgeTimeoutLength, geometryCommitted, geometryCommitted, ht]
  simp only [startPurge, modifyHead_get, hs, hd]

/-- A head proceeds to its purge exactly when it is in PURGE-WAIT with an empty list. -/
theorem proceedIfEmpty_cases (h : Fin 4) :
    (s.heads[h].state = .purgeWait ∧ s.heads[h].bookings = [] ∧ proceedIfEmpty h s = startPurge h s)
    ∨ (¬(s.heads[h].state = .purgeWait ∧ s.heads[h].bookings = []) ∧ proceedIfEmpty h s = s) := by
  by_cases c : s.heads[h].state = .purgeWait ∧ s.heads[h].bookings = []
  · exact .inl ⟨c.1, c.2, if_pos c⟩
  · exact .inr ⟨c, if_neg c⟩

/-- A drop empties the head's list and changes no head otherwise. -/
theorem dropBookings_heads (h : Fin 4) :
    (dropBookings h s).heads = (modifyHead h (fun k => { k with bookings := [] }) s).heads := by
  have f : ∀ t : State, (s.heads[h].bookings.foldl dropBooking t).heads = t.heads := fun t =>
    changesOnly.foldl (f := dropBooking) (fun s b => dropBooking_frame s b) _ t .heads (by decide)
  by_cases g : s.heads[h].bookings = []
  · exact (congrArg State.heads (if_pos g)).trans (f _)
  · exact (congrArg State.heads (if_neg g)).trans (((setFlag_frame _ .printfail) .heads (by decide)).trans (f _))

/-! ## Stackers -/

/-- One stacker after the change of a stacker. -/
theorem modifyStacker_get (n j : Fin 8) (f : Stacker → Stacker) :
    (modifyStacker n f s).stackers[j] = if j = n then f s.stackers[j] else s.stackers[j] := updateAt_get s.stackers n j f

/-- A recomputation either finds the held condition, or replaces it, issues an order and has the effects of an entry into FULL. -/
theorem recomputeLamp_cases (n : Fin 8) :
    (lampConditionOf s n = s.stackers[n].lamp ∧ recomputeLamp n s = s)
    ∨ (lampConditionOf s n ≠ s.stackers[n].lamp
        ∧ ∀ u, u = issueLamp n (modifyStacker n (fun k => { k with lamp := lampConditionOf s n }) s) →
          recomputeLamp n s = if lampConditionOf s n = .full then enterFull n u else u) := by
  by_cases h : lampConditionOf s n = s.stackers[n].lamp
  · exact .inl ⟨h, if_pos h⟩
  · exact .inr ⟨h, fun u hu => by rw [hu]; exact if_neg h⟩

/-- A recomputation changes one lamp condition and no count. -/
theorem recomputeLamp_stackers (n j : Fin 8) :
    (recomputeLamp n s).stackers[j]
      = if j = n then { s.stackers[j] with lamp := lampConditionOf s n } else s.stackers[j] := by
  rcases recomputeLamp_cases s n with ⟨h, e⟩ | ⟨-, e⟩
  · rw [e]
    split
    · rename_i hj
      rw [h, hj]
    · rfl
  · have hi : ∀ t : State, (issueLamp n t).stackers = t.stackers := fun t => issueLamp_frame t n .stackers (by decide)
    have hf : ∀ t : State, (enterFull n t).stackers = t.stackers := fun t => enterFull_frame t n .stackers (by decide)
    rw [e _ rfl]
    split <;> simp only [hf, hi, modifyStacker_get]

/-! ## Tallies -/

/-- The tally unit after a count. -/
theorem count_tally (i : Fin 64) : (count i s).tally = countLive s.tally i := by
  unfold count
  split
  · exact (setFlag_frame _ .tallywrap) .tally (by decide)
  · rfl

/-- A count adds 1 to its counter modulo 2^32 and leaves the others. -/
theorem countLive_get (t : TallyUnit) (i j : Fin 64) :
    (countLive t i).live[j] = if j = i then t.live[j] + 1 else t.live[j] := by
  by_cases h : j = i
  · subst h
    by_cases c : t.live[j] = BitVec.allOnes 32
    · rw [countLive, if_pos c, if_pos rfl, c]
      simp
    · rw [countLive, if_neg c, if_pos rfl]
      simp
  · have hv : i.val ≠ j.val := fun e => h (Fin.ext e.symm)
    rw [if_neg h]
    unfold countLive
    split <;> simp [hv]

/-! ## The evaluation unit -/

/-- A start takes the head of the queue; an empty queue leaves the state. -/
theorem startEvaluation_cases :
    (s.eval.queue = [] ∧ startEvaluation s = s)
    ∨ ∃ q rest, s.eval.queue = q :: rest
        ∧ startEvaluation s
          = setLetterState q .evaluating (s.withEval { busy := true, subject := some q, queue := rest }) := by
  unfold startEvaluation
  cases h : s.eval.queue with
  | nil => exact .inl ⟨rfl, rfl⟩
  | cons q rest => exact .inr ⟨q, rest, rfl, rfl⟩

end Sys2Proof.Machine
end

