-- ==== Sys2Proof/Tests/Slice0.lean ====
section
/-! SUPPORT. Tests: what WellFormed refuses; worked values of the manual, each with its section; and, for every statement with
hypotheses, a witness that meets them. -/

namespace Sys2Proof.Tests

open Sys2Proof Sys2Proof.Machine

/-! ## States -/

/-- The part right after reset; its own station is 0, so header bytes 0 and 1 address it. -/
def blank : State := State.reset

/-- The state after a command. -/
def after (c : Instr) (s : State) : State :=
  match exec c s with
  | .next t => t
  | .fault _ => s
  | .refused _ => s

/-- Numbers as 16-bit table fields (R171). -/
def words (ns : List Nat) : List Byte := ns.flatMap (natBytes 2)

/-- Bytes as a row, the rest zero. -/
def row (bs : List Byte) : Row := rowOfBytes bs

/-- The tables of sections 1.9, 3.11, 4.7, 5.9, 6.10, 7.7 and 8.10, with turn scale 4,178 (section 6.11). -/
def sampleTables : Tables :=
  { Tables.zero with
    signature := (Tables.zero.signature.set 0 (row ([0x11] ++ words [24, 400] ++ natBytes 3 4000 ++ [0, 0, 0, 0, 0, 0, 160, 255]))).set 1
      (row ([0x23] ++ words [24, 400] ++ [0, 0, 0] ++ natBytes 3 4000 ++ [0, 0, 0, 0, 96])) |>.set 2
      (row ([0x35] ++ words [30, 600] ++ [0, 0, 0, 0, 0, 0] ++ natBytes 3 3000 ++ [0, 255]))
    routing := (Tables.zero.routing.set 1 (row ([0x03, 0x09, 0x02, 0, 0, 0] ++ words [560, 1000] ++ [0, 2, 2, 3, 38]))).set 3
      (row ([0x03, 0x60, 0x02, 0, 0, 0] ++ words [560, 1000] ++ [1, 1, 5, 6, 40]))
    pattern := (Tables.zero.pattern.set 2 (row ([16, 16] ++ words [200, 120] ++ [8, 0]))).set 3
      (row ([24, 24] ++ words [0, 16] ++ [8, 2]))
    stacker := (Tables.zero.stacker.set 0 (row (words [0, 12000, 300, 50, 45] ++ [0xFF, 3]))).set 2
      (row (words [8900, 9000, 200, 10, 8] ++ [1, 2])) |>.set 3 (row (words [9700, 9800, 200, 20, 16] ++ [1, 2]))
    geometry := #v[row (words [2400, 200, 120, 560, 1000, 80]), row (words [3000, 3200, 4178, 200, 40]),
      row (words [100, 0, 1000]), row [20]]
    scanset := #v[row [64, 0xE0, 0x07, 8], row (words [40, 60, 50])]
    office := #v[row (natBytes 3 12345 ++ [3, 18]), row [1, 2, 3, 4, 5, 6, 7, 8]] }

/-- A running lane with these tables in force, every head READY and the clock of section 6.10. -/
def lane : State :=
  { blank with
    store := { blank.store with tables := sampleTables, committed := Vector.replicate 8 true }
    position := ⟨101000, some (laneDistances (geometryOf sampleTables)), some (stackerDistances sampleTables)⟩
    track := { blank.track with mode := .running }
    heads := Vector.replicate 4 { Head.reset with state := .ready }
    clock := ⟨31, 2, 28, 19, 5, 12, 5, true, 0⟩ }

/-- A letter of a length in a state, with empty windows. -/
def letter (q : Seq) (leading : Pos) (L : Nat) (st : LetterState) : Letter :=
  ⟨q, leading, leading + 2200, some L, noFlags, st, some (Vector.replicate 8 (recordOf ⟨0, 255⟩ emptyWindow)), none, none,
    none, none⟩

/-- A letter on its way to a stacker, with the window that stacker 2 gives it in section 8.10. -/
def routed (q : Seq) (leading : Pos) (n : Fin 8) : Letter :=
  { letter q leading 700 .routed with
    disposition := some ⟨.straight, n, some 1, none⟩, window := some ⟨leading + 8800, leading + 9200⟩ }

/-- The letter that is OPEN. -/
def opened (q : Seq) (leading : Pos) : Letter :=
  ⟨q, leading, leading + 2200, none, noFlags, .opened, none, none, none, none, none⟩

/-- A state with a letter OPEN at a position and its scan context. -/
def withOpen (leading : Pos) : State :=
  { lane with
    track := { lane.track with letters := [opened 7 leading] }
    scan := openContext 7 leading lane.scan }

/-- A frame of an unknown kind for a destination. -/
def sampleFrame (dest : Byte) : Frame := ⟨dest, 1, 9, [1, 2, 3]⟩

/-- A ring port changed. -/
def ringed (r : RingPort) : State := { blank with ring := r }

/-- A SENDING output. -/
def sendingPort : RingPort := { blank.ring with sending := some (sampleFrame 2) }

/-- An order. -/
def sampleOrder : OrderFrame := ⟨3, .purge 1⟩

/-- An answer. -/
def sampleAnswer : Reply := oneAnswer 1 0x01 .ok [0]

/-- A SENDING output before a full order queue. -/
def fullPort : RingPort := { sendingPort with orders := List.replicate 16 sampleOrder }

/-- The state with a head of its own. -/
def withHead (k : Head) : State := { lane with heads := Vector.replicate 4 k }

/-- A head in a state, with no timer, window or booking. -/
def headIn (st : HeadState) : Head := { Head.reset with state := st }

/-- A booking. -/
def sampleBooking : Booking := ⟨40, 102600, 102950, 102990⟩

/-- A lane with an open load. -/
def loading (l : Load) (m : LaneMode) : State :=
  { lane with store := { lane.store with load := some l }, track := { lane.track with mode := m } }

/-- The rows of section 10.7. -/
def patternRow2 : Row := row ([16, 16] ++ words [200, 120] ++ [8, 0])

@[inherit_doc patternRow2]
def patternRow3 : Row := row ([24, 24] ++ words [0, 16] ++ [8, 2])

@[inherit_doc patternRow2]
def patternRow3First : Row := row ([24, 24] ++ words [0, 16] ++ [8, 5])

/-- The load of section 10.7 after its rows have arrived. -/
def patternLoad (third : Row) (sum : BitVec 16) : Load := ⟨.pattern, 2, 2, [patternRow2, third], sum⟩

/-- A part with no command waiting, at phases of the two divisions of TBASE. -/
def ticking (ms second : Nat) : State := { blank with time := ⟨false, ms⟩, clock := { blank.clock with phase := second } }

/-! ## What WellFormed refuses -/

theorem test_illformed_ask : (Instr.ask 0 1 2 (List.replicate 56 0)).wellFormed = false := by decide

theorem test_illformed_badFrame : (Instr.badFrame (frameBytes (sampleFrame 0))).wellFormed = false := by decide +kernel

theorem test_illformed_forwardedFrame : (Instr.forwardedFrame ⟨2, 1, 9, List.replicate 57 0⟩).wellFormed = false := by
  decide

theorem test_illformed_ownFrameReturn : (Instr.ownFrameReturn ⟨2, 0, 9, List.replicate 57 0⟩).wellFormed = false := by
  decide

theorem test_illformed_unknownKind :
    (Instr.unknownKind ⟨0, 1, 9, List.replicate 57 0⟩).wellFormed = false
      ∧ (Instr.unknownKind (messageFrame 0 1 (.tick 5))).wellFormed = false := by decide

theorem test_illformed_echo : (Instr.echo 0 1 (List.replicate 56 0)).wellFormed = false := by decide

theorem test_illformed_mode : (Instr.mode 0 1 1 (List.replicate 28 (0, 0))).wellFormed = false := by decide

theorem test_illformed_tableRow : (Instr.tableRow 0 1 (List.replicate 56 0)).wellFormed = false := by decide

theorem test_illformed_protect : (Instr.protect 0 1 (List.replicate 9 0)).wellFormed = false := by decide

theorem test_illformed_unknownAsk :
    (Instr.unknownAsk 0 1 0x15 []).wellFormed = false
      ∧ (Instr.unknownAsk 0 1 0x16 (List.replicate 56 0)).wellFormed = false := by decide

/-! ## Frames (R175, R189, R190) -/

/-- The check of R175 over the digits 1 to 9 is 29B1h: the published check value of this polynomial and start (PRESUMED: it is not
in the manual). -/
theorem test_check_value : crc [0x31, 0x32, 0x33, 0x34, 0x35, 0x36, 0x37, 0x38, 0x39] = 0x29B1 := by decide +kernel

/-- A TICK from station 3 to station 10 at 16,777,180 = FFFFDCh, its payload least significant byte first. -/
theorem test_tick_bytes :
    (frameBytes (messageFrame 10 3 (.tick 16777180))).take 7 = [0x0A, 0x03, 0x01, 0x03, 0xDC, 0xFF, 0xFF] := by decide

/-- The PRINT order of section 6.10 in the layout of R190. -/
theorem test_print_payload :
    orderPayload (.print 0 41 103024 308 2 0 1 3 31 19 12345 3)
      = [0x02, 0x00, 0x29, 0x00, 0x70, 0x92, 0x01, 0x34, 0x01, 0x02, 0x01, 0x03, 0x1F, 0x13, 0x39, 0x30, 0x00, 0x03] := by
  decide

/-! ## Chapter 1 -/

/-- The six frames of section 1.7: which of them advance the belt. -/
theorem test_positions_ahead :
    aheadOf 16777100 16777180 = true ∧ aheadOf 16777180 16777150 = false ∧ aheadOf 16777180 40 = true
      ∧ aheadOf 40 40 = false ∧ aheadOf 40 8388700 = false ∧ aheadOf 40 1040 = true := by decide

/-- The conversions of sections 1.8 and 1.9. -/
theorem test_conversions :
    convert 2400 4178 .turn 3200 = 3216 ∧ convert 2400 3686 .turn 3400 = 3300 ∧ convert 2400 4178 .turn 2000 = 2000
      ∧ convert 2400 4506 .turn 3200 = 3280 ∧ convert 2400 4506 .turn 22000 = 23962
      ∧ convert 2400 4096 .turn 22000 = 22000 := by decide

/-! ## Chapter 3 -/

/-- The samples of a marked line of section 3.11, at cells 6 and 7; every other sample equals its background. -/
def markedSamples : Vector (BitVec 16) 24 :=
  #v[0, 0, 0, 0, 0, 0, 0, 0, 0, 0, 0, 0, 0, 0, 0, 20, 30, 100, 220, 70, 100, 220, 70, 100]

/-- The background of section 3.11 at cells 5 to 7. -/
def markedBackground : Vector Nat 24 :=
  #v[0, 0, 0, 0, 0, 0, 0, 0, 0, 0, 0, 0, 0, 0, 0, 160, 240, 800, 160, 240, 800, 160, 240, 800]

/-- The upper half of a marked line's partial in section 3.11. -/
theorem test_marked_partial :
    (linePartial (scansetOf sampleTables) markedBackground markedSamples 40).upper
      = ⟨⟨400, 80, 0⟩, ⟨2, 0, 0⟩, true⟩ := by decide

/-- Q of the FTL window of section 3.11, and the background steps of section 3.14. -/
theorem test_ratio_and_background :
    ratioOf ⟨8000, 1600, 0⟩ = 212 ∧ updateBackground 160 28 = 168 ∧ updateBackground 168 28 = 175
      ∧ updateBackground 175 28 = 182 ∧ updateBackground 182 28 = 188 ∧ excessOf 188 60 = 37 := by decide

/-- The expected line counts of sections 3.11 to 3.13. -/
theorem test_scan_gap :
    gapFails 8 960 232 = false ∧ gapFails 8 960 231 = true ∧ gapFails 8 200 40 = true ∧ gapFails 0 1200 300 = false := by
  decide

/-! ## Chapter 4 -/

/-- The FTL and RBT windows of section 4.7; the other six are empty. -/
def sampleWindows : Vector WindowRecord 8 :=
  ((Vector.replicate 8 (recordOf ⟨0, 255⟩ emptyWindow)).set 0
    (recordOf ⟨0, 255⟩ ⟨⟨8000, 1600, 0⟩, ⟨40, 0, 0⟩, some ⟨40, 116⟩⟩)).set 7
    (recordOf ⟨704, 959⟩ ⟨⟨0, 0, 1200⟩, ⟨0, 0, 6⟩, some ⟨880, 904⟩⟩)

/-- The verdict of section 4.7. -/
theorem test_verdict :
    verdictOf sampleTables sampleWindows = (⟨.faced, some .ftl, 1, some 0, some ⟨40, 116⟩⟩, false) := by decide

/-! ## Chapter 5 -/

/-- The gate checks of section 5.9 for letters 50, 51 and 52. -/
theorem test_gate_checks :
    gateCheck (geometryOf sampleTables) ⟨[], .straight⟩ 20000 .turn = .switch 22200
      ∧ gateCheck (geometryOf sampleTables) ⟨[⟨50, .turn, 20000, 20900, 23300, false⟩], .turn⟩ 20990 .straight = .forced
      ∧ gateCheck (geometryOf sampleTables) ⟨[⟨51, .turn, 20990, 21690, 24090, false⟩], .turn⟩ 21900 .straight
        = .switch 24090 := by decide

/-- The row that section 5.9 selects for letter 52 and for letter 50. -/
theorem test_row_selection :
    selectRow sampleTables (letter 52 21900 800 .evaluating) ⟨.faced, some .fbt, 1, some 0, none⟩ = some 1
      ∧ selectRow sampleTables (letter 50 20000 900 .evaluating) ⟨.faced, some .rbl, 1, some 0, none⟩ = some 3 := by
  decide

/-! ## Chapter 6 -/

/-- The verdict of sections 4.7 and 6.10. -/
def sampleVerdict : Verdict := ⟨.faced, some .ftl, 1, some 0, some ⟨40, 116⟩⟩

/-- The lane of section 6.10: head 0 holds one booking whose occupancy ends at 102,990. -/
def bookedLane : State := { lane with heads := lane.heads.set 0 { headIn .ready with bookings := [sampleBooking] } }

/-- The letter of section 6.10. -/
def letter41 : Letter := letter 41 100000 960 .evaluating

/-- The booking of section 6.10. -/
theorem test_booking : requestBooking bookedLane letter41 sampleVerdict .straight 2 = some ⟨0, 103024, 308⟩ := by decide

/-- The extent of a mark without a span is the range of the window at its corner (R99). -/
theorem test_extent_without_span :
    markExtent { letter41 with windows := some sampleWindows } ⟨.faced, some .rbt, 3, some 2, none⟩ .rbt = ⟨704, 959⟩ := by decide

/-- The placements of section 6.11. -/
theorem test_placements :
    placement (patternRow patternRow2) .rtt ⟨620, 690⟩ 700 = some (404, 288)
      ∧ placement ⟨16, 16, 200, 200, 8, 0⟩ .ftl ⟨10, 30⟩ 200 = none := by decide

/-- The cancel distance and the print start across the wrap of section 6.11. -/
theorem test_print_across_wrap :
    cancelDistance lane .turn = 3216 ∧ addDistance (addDistance 16777000 404) 3216 = 3404 := by decide

/-- The postmark of section 6.10. -/
theorem test_print_order :
    printOrder lane 41 ⟨0, 103024, 308⟩ 2 = ⟨3, .print 0 41 103024 308 2 0 1 3 31 19 12345 3⟩ := by decide

/-! ## Chapter 7 -/

/-- The postmark dates of section 7.7. -/
theorem test_postmark_dates :
    postmarkDate ⟨31, 2, 28, 19, 5, 12, 1, true, 0⟩ 18 = ⟨31, 3, 1⟩
      ∧ postmarkDate ⟨32, 2, 28, 19, 5, 12, 1, true, 0⟩ 18 = ⟨32, 2, 29⟩
      ∧ postmarkDate ⟨32, 2, 29, 17, 59, 59, 1, true, 0⟩ 18 = ⟨32, 2, 29⟩
      ∧ postmarkDate ⟨32, 2, 29, 18, 0, 0, 1, true, 0⟩ 18 = ⟨32, 3, 1⟩
      ∧ postmarkDate ⟨31, 4, 30, 23, 59, 59, 1, true, 0⟩ 18 = ⟨31, 5, 1⟩
      ∧ postmarkDate ⟨99, 12, 31, 20, 0, 0, 1, true, 0⟩ 18 = ⟨0, 1, 1⟩
      ∧ postmarkDate ⟨0, 2, 28, 21, 30, 0, 1, true, 0⟩ 18 = ⟨0, 2, 29⟩
      ∧ postmarkDate ⟨31, 2, 28, 23, 59, 59, 1, true, 0⟩ 0 = ⟨31, 2, 28⟩ := by decide

/-- Events 3, 4 and 8 of section 7.8. -/
theorem test_clock_events :
    clockSetFailure 31 2 29 23 59 50 4 = 3 ∧ clockSetFailure 32 2 29 23 59 50 4 = 0
      ∧ advanceSecond ⟨32, 2, 29, 23, 59, 59, 4, true, 0⟩ = ⟨32, 3, 1, 0, 0, 0, 5, true, 0⟩ := by decide

/-! ## Chapter 8 -/

/-- The arrival windows of letters 101 and 104 of section 8.10. -/
theorem test_arrival_windows :
    arrivalWindow lane 2 60000 = ⟨68800, 69200⟩ ∧ arrivalWindow lane 2 63000 = ⟨71800, 72200⟩ := by decide

/-- The lamp conditions of stacker 2 in section 8.10. -/
theorem test_lamp_conditions :
    lampCondition 10 8 9 = .near ∧ lampCondition 10 8 10 = .full ∧ lampCondition 10 8 4 = .normal := by decide

/-! ## One step of each kind of command -/

/-- Frame 3 of section 1.7: the TICK at 40 passes the belt over the wrap. -/
theorem test_tick_advances :
    (after (.tick 0 1 40) { blank with position := { blank.position with belt := 16777180 } }).position.belt = 40 := by
  decide

/-- A LEAD edge admits a letter with the deadline of section 5.9, and a TRAIL edge gives it its length. -/
theorem test_edges :
    (after (.leadEdge 0 1 100500) lane).track.letters.map (fun l => (l.leading, l.deadline, l.state))
      = [(100500, 102700, .opened)]
      ∧ ((after (.trailEdge 0 1 100960) (withOpen 100000)).track.letters.map Letter.length) = [some 960] := by decide

/-- A LINE behind the context's leading position is a BACKGROUND line (section 3.14). -/
theorem test_line_background :
    (after (.line 0 1 .f 100900 (Vector.replicate 24 28)) (withOpen 100904)).scan.backgroundF[0] = 28 := by decide

/-- Events 4 and 7 of section 8.10: an arrival in letter 101's window, and one in none. -/
theorem test_arrive :
    (after (.arrive 0 1 2 68950) { lane with track := { lane.track with letters := [routed 101 60000 2] } }).track.letters = []
      ∧ (after (.arrive 0 1 2 70100) { lane with track := { lane.track with letters := [routed 101 60000 2] } }).tally.live[9]
        = 1 := by decide

/-- A sweep empties the arrived count, and stacker 9 is stray. -/
theorem test_swept :
    (after (.swept 0 1 2) { lane with stackers := Vector.replicate 8 ⟨4, 6, .near⟩ }).stackers[2] = ⟨4, 0, .normal⟩
      ∧ (after (.swept 0 1 9) lane).ring.counters.strayReport = 1 := by decide

/-- A HEADFAULT puts a READY head to rest; a second one latches it. -/
theorem test_headfault :
    (after (.headfault 0 1 1 none) lane).heads[1] = { headIn .resting with restart := some ⟨100, 100⟩ }
      ∧ (after (.headfault 0 1 1 none) (after (.headfault 0 1 1 none) lane)).heads[1].state = .latched := by decide

/-- A purge that completes. -/
theorem test_purge :
    (after (.headControlPurge 0 1 1) lane).heads[1].state = .purging
      ∧ (after (.purgedone 0 1 1 .complete) (after (.headControlPurge 0 1 1) lane)).heads[1]
        = { headIn .ready with lastPurge := .complete } := by decide

/-- HEAD CONTROL on an enabled head. -/
theorem test_head_control :
    (after (.headControlEnable 0 1 3) blank).heads[3].state = .ready
      ∧ (after (.headControlDisable 0 1 3) lane).heads[3].state = .disabled
      ∧ (after (.headControlAbortPurge 0 1 1) (after (.headControlPurge 0 1 1) lane)).heads[1].abort = true
      ∧ (after (.headControlStatus 0 1 4) lane).ring.sending
        = some ⟨1, 0, 7, [0x13, 3, 0x80, 4, 4, 0xFF, 0xFF, 0xFF, 0xFF]⟩ := by decide

/-- IDENTIFY and ECHO answer at once to an idle output (R183). -/
theorem test_identify_echo :
    (after (.identify 0 1) blank).ring.sending = some ⟨1, 0, 7, [0x01, 0, 0x80, 0x10, 0x04, 0x01, 0x00]⟩
      ∧ (after (.echo 0 1 [0x55, 0xF0]) blank).ring.sending = some ⟨1, 0, 7, [0x02, 0, 0x80, 0xAA, 0x0F]⟩ := by decide

/-- A bad frame is counted and flagged; an unknown kind only counted; LINK STATUS clears the counts. -/
theorem test_link_counts :
    (after (.badFrame [1, 2]) blank).ring.counters.badCheck = 1 ∧ flagSet (after (.badFrame [1, 2]) blank) .linkerr = true
      ∧ (after (.unknownKind (sampleFrame 0)) blank).ring.counters.unknownKind = 1
      ∧ (after (.linkStatus 0 1) (after (.badFrame [1, 2]) blank)).ring.counters.badCheck = 0 := by decide

/-- A frame for another station goes out unchanged; one that returns is removed. -/
theorem test_forwarding :
    (after (.forwardedFrame (sampleFrame 2)) blank).ring.sending = some (sampleFrame 2)
      ∧ (after (.ownFrameReturn ⟨2, 0, 7, [1, 0, 0x80]⟩) blank).ring.sending = none := by decide

/-- An ask of an unknown code is answered UNKNOWN, and the fifth waiting ask is dropped (R182). -/
theorem test_asks :
    (after (.unknownAsk 0 1 0x16 []) blank).ring.sending = some ⟨1, 0, 7, [0x16, 8, 0x80]⟩
      ∧ (after (.ask 0 1 0x01 [])
          (ringed { sendingPort with intake := List.replicate 4 ⟨1, 1, []⟩ })).ring.counters.askDrop = 1 := by decide

/-- MODE from STOPPED to RUNNING needs the tables; to SERVICE it does not (R20, R24). -/
theorem test_mode :
    (after (.mode 0 1 1 []) blank).ring.sending = some ⟨1, 0, 7, [0x04, 3, 0x80, 0, 3]⟩
      ∧ (after (.mode 0 1 3 [(1, 0)]) blank).track.mode = .service
      ∧ (after (.mode 0 1 3 [(1, 0)]) blank).heads[1].state = .ready := by decide

/-- A lane reset stops the lane and disables the heads (R185). -/
theorem test_lane_reset :
    (after (.laneReset 0 1) lane).track.mode = .stopped ∧ (after (.laneReset 0 1) lane).heads[2].state = .disabled := by
  decide

/-- Events 1 to 3 of section 10.7: the staged sums 360 and 437. -/
theorem test_load_sums :
    (after (.tableOpen 0 1 2 2 1) lane).store.load = some ⟨.pattern, 2, 2, [], 0⟩
      ∧ ((after (.tableRow 0 1 (rowBytes patternRow2)) (after (.tableOpen 0 1 2 2 1) lane)).store.load.map Load.sum)
        = some 360
      ∧ ((after (.tableRow 0 1 (rowBytes patternRow3First))
          (loading ⟨.pattern, 2, 2, [patternRow2], 360⟩ .running)).store.load.map Load.sum) = some 437
      ∧ (after (.tableAbort 0 1) (after (.tableOpen 0 1 2 2 1) lane)).store.load = none := by decide

/-- Events 4, 6, 9 and 11 of section 10.7: the answers MODE, CHECK, RANGE for row 3, and OK. -/
theorem test_commits :
    (after (.tableCommit 0 1 434) (loading (patternLoad patternRow3First 437) .running)).store.load.isSome = true
      ∧ (after (.tableCommit 0 1 434) (loading (patternLoad patternRow3First 437) .stopped)).ring.sending
        = some ⟨1, 0, 7, [0x08, 6, 0x80, 0xFF, 0, 0, 0, 0, 0, 0, 0, 0, 0, 0]⟩
      ∧ (after (.tableCommit 0 1 437) (loading (patternLoad patternRow3First 437) .stopped)).ring.sending
        = some ⟨1, 0, 7, [0x08, 3, 0x80, 3, 0, 0, 0, 0, 0, 0, 0, 0, 0, 0]⟩
      ∧ (after (.tableCommit 0 1 434) (loading (patternLoad patternRow3 434) .stopped)).store.load = none := by decide

/-- Events 12 and 14 of section 10.7: the cursor after a read of rows 2 to 4, and at the table's end. -/
theorem test_table_read :
    (after (.tableRead 0 1 3 (some (2, 2))) lane).store.cursorRow = 5
      ∧ (after (.tableRead 0 1 1 none)
          { lane with store := { lane.store with cursorTable := .pattern, cursorRow := 8 } }).store.cursorRow = 8 := by decide

/-- PROTECT protects table 2 once. -/
theorem test_protect :
    (after (.protect 0 1 [2]) lane).store.protectedSet = 4
      ∧ (after (.protect 0 1 [3]) (after (.protect 0 1 [2]) lane)).store.protectedSet = 4 := by decide

/-- Section 9.9: counter 38 wraps, sets its mark and TALLYWRAP; a freeze takes it into the snapshot. -/
theorem test_tally_wrap :
    (countLive { blank.tally with live := Vector.replicate 64 4294967294 } 38).live[38] = 4294967295
      ∧ (countLive { blank.tally with live := Vector.replicate 64 4294967295 } 38).live[38] = 0
      ∧ (countLive { blank.tally with live := Vector.replicate 64 4294967295 } 38).liveMarks[38] = true := by decide

/-- Freeze 13 of section 9.9 and the cursor after a read of three counters from 36. -/
theorem test_tally_asks :
    (after (.tallyFreeze 0 1 0) { blank with tally := { blank.tally with number := 12 } }).tally.number = 13
      ∧ (after (.tallyRead 0 1 3 (some 36)) blank).tally.cursor = 39 := by decide

/-- Events 3 and 4 of section 7.8, and the tenth second event. -/
theorem test_clock_commands :
    (after (.clockSet 0 1 31 2 29 23 59 50 4) blank).clock.valid = false
      ∧ (after (.clockSet 0 1 32 2 29 23 59 50 4) blank).clock = ⟨32, 2, 29, 23, 59, 50, 4, true, 0⟩
      ∧ (after .secondEvent { blank with clock := ⟨32, 2, 29, 23, 59, 59, 4, true, 0⟩ }).clock
        = ⟨32, 3, 1, 0, 0, 0, 5, true, 0⟩ := by decide

/-- Event 1 of section 7.8: CLOCK READ 4 seconds after release, with cutover hour 18. -/
theorem test_clock_read :
    (after (.clockRead 0 1) { lane with clock := ⟨0, 1, 1, 0, 0, 4, 1, false, 0⟩ }).ring.sending
      = some ⟨1, 0, 7, [0x0F, 0, 0x80, 0, 1, 1, 0, 0, 4, 1, 0, 18, 1, 1, 0, 0]⟩ := by decide

/-- Events 2 and 5 of section 7.8: CLOCKINVALID is cleared only once the clock is VALID. -/
theorem test_condition_asks :
    flagSet (after (.flagsClear 0 1 0x2000) blank) .clockinvalid = true
      ∧ flagSet (after (.flagsClear 0 1 0x2000) lane) .clockinvalid = false
      ∧ (after (.maskSet 0 1 0x00001) blank).cond.mask = 1
      ∧ (after (.flagsRead 0 1) blank).ring.sending
        = some ⟨1, 0, 7, [0x10, 0, 0x80, 0x00, 0x20, 0x00, 0xFF, 0xFF, 0x0F]⟩ := by decide

/-- Event 8 of section 8.10: the sweep removes the arrival. -/
theorem test_stacker_sweep :
    (after (.stackerSweep 0 1 0x04) { lane with stackers := Vector.replicate 8 ⟨3, 1, .normal⟩ }).stackers[2]
      = ⟨3, 0, .normal⟩ := by decide +kernel

/-- TRACK READ of an empty track in RUNNING. -/
theorem test_track_read :
    (after (.trackRead 0 1 none) lane).ring.sending = some ⟨1, 0, 7, [0x15, 0, 0x80, 1, 0, 0, 0, 0, 0, 0]⟩ := by decide

/-- Events 4, 6 and 7 of the worked sequence of section 11.4. -/
theorem test_sending_completion :
    (after .sendingCompletion (ringed { fullPort with waiting := [⟨.purge 1, sampleOrder⟩] })).ring.orders.length = 16
      ∧ (after .sendingCompletion (ringed { sendingPort with
          forward := List.replicate 2 (sampleFrame 2), answers := [sampleAnswer], turn := .answer })).ring.turn = .forward
      ∧ (after .sendingCompletion (ringed { sendingPort with
          forward := List.replicate 2 (sampleFrame 2), answers := [sampleAnswer], turn := .forward })).ring.turn
        = .answer := by decide

/-- The lane with an evaluation in flight, whose subject is the letter given. -/
def evaluating (l : Letter) : State :=
  { lane with track := { lane.track with letters := [l] }, eval := ⟨true, some l.seq, []⟩ }

/-- The letter of sections 4.7 and 6.10 with its windows. -/
def scanned41 : Letter := { letter41 with windows := some sampleWindows }

/-- The completion of section 4.7: the letter is ROUTED and tally 14 is counted. -/
theorem test_evaluation_completion :
    (after .evaluationCompletion (evaluating scanned41)).track.letters.map (fun l => (l.state, l.print.map Print.start))
        = [(.routed, some 103024)]
      ∧ (after .evaluationCompletion (evaluating scanned41)).tally.live[14] = 1 := by decide

/-- Timers: a rest ends READY, a window closes, a purge that overruns latches its head. -/
theorem test_expiries :
    (after (.restartTimerExpiry 0) (withHead { headIn .resting with restart := some ⟨100, 1⟩ })).heads[0].state = .ready
      ∧ (after (.faultWindowExpiry 0) (withHead { headIn .ready with faultWindow := some ⟨5, 5⟩ })).heads[0].faultWindow = none
      ∧ (after (.purgeTimeout 0) (withHead { headIn .purging with purge := some ⟨1000, 1⟩ })).heads[0].lastPurge
        = .timeout := by decide

/-- Power-on reset reads the straps; its release starts the timebase. -/
theorem test_power_on :
    (after (.powerOnReset 10) lane).ring.own = 10 ∧ (after (.powerOnReset 10) lane).time.rstnAsserted = true
      ∧ (after .resetRelease (after (.powerOnReset 10) lane)).time.rstnAsserted = false := by decide

/-! ## Witnesses: states and operands that meet the hypotheses of the statements, clause by clause -/

/-- A frame for the part, and an ask that finds room for three parts of an answer. Every statement about asks that are served
at once has this state, or one that differs outside the ring port, as its witness. -/
theorem witness_servedAtOnce : servedAtOnce 0 1 3 blank := by unfold servedAtOnce addressedToPart; decide

@[inherit_doc witness_servedAtOnce]
theorem witness_servedAtOnce_lane : servedAtOnce 0 1 3 lane := by unfold servedAtOnce addressedToPart; decide

/-- A frame for the part. -/
theorem witness_addressedToPart : addressedToPart 0 1 blank ∧ addressedToPart 0 1 lane := by
  unfold addressedToPart; decide

theorem witness_StepRunsFrontCommand : (blank.withPending [.secondEvent]).pending = .secondEvent :: [] := by decide

/-- RSTn asserted; both divisions below their ends; the last second period; the last millisecond period; both last periods. -/
theorem witness_IdleStepIsOnePeriod :
    ((State.powerOn 0).pending = [] ∧ (State.powerOn 0).time.rstnAsserted = true)
      ∧ (∀ ms ∈ ([0, 998] : List Nat), ∀ second ∈ ([0, 999998] : List Nat), (ticking ms second).pending = []
        ∧ (ticking ms second).time.rstnAsserted = false ∧ (ticking ms second).time.msPhase + 1 < 1000
        ∧ (ticking ms second).clock.phase + 1 < 1000000)
      ∧ ((ticking 998 999999).time.msPhase + 1 < 1000 ∧ (ticking 998 999999).clock.phase + 1 = 1000000)
      ∧ ((ticking 999 999998).time.msPhase + 1 = 1000 ∧ (ticking 999 999998).clock.phase + 1 < 1000000)
      ∧ (ticking 999 999999).time.msPhase + 1 = 1000 ∧ (ticking 999 999999).clock.phase + 1 = 1000000 := by decide

/-- Heads that meet the invariant: at rest and in a purge with two and with one event left, and READY in a fault window. -/
theorem witness_TimersCountMilliseconds :
    headInvariant { headIn .resting with restart := some ⟨100, 2⟩ }
      ∧ headInvariant { headIn .resting with restart := some ⟨100, 1⟩ }
      ∧ headInvariant { headIn .purging with purge := some ⟨1000, 2⟩, faultWindow := some ⟨50, 2⟩ }
      ∧ headInvariant { headIn .purging with purge := some ⟨1000, 1⟩ }
      ∧ headInvariant { headIn .ready with faultWindow := some ⟨50, 1⟩ } := by
  refine ⟨?_, ?_, ?_, ?_, ?_⟩ <;> (unfold headInvariant; decide)

theorem witness_PowerOnReset : (State.powerOn 10).time.rstnAsserted = true := by decide

theorem witness_NothingInProgress :
    blank.ring.sending = none ∧ blank.eval.busy = false ∧ blank.time.rstnAsserted = false
      ∧ ∀ h : Fin 4, blank.heads[h].restart = none ∧ blank.heads[h].faultWindow = none ∧ blank.heads[h].state ≠ .purging := by
  decide

/-- A payload of 56 bytes fits; the bytes of a frame are read as that frame. -/
theorem witness_FrameBytesRoundTrip :
    (⟨2, 1, 9, List.replicate 56 7⟩ : Frame).payload.length ≤ maxPayload
      ∧ parseFrame (frameBytes (sampleFrame 2)) = some (sampleFrame 2) := by decide +kernel

/-- The payloads of R190 written out: GATE, LAMP with a pattern and off, an ALERT of flag 19, a HALT for stacker 4; the greatest
part number. -/
theorem witness_MessageRoundTrip :
    orderFrame 10 ⟨3, .gate .turn 0x012345⟩ = ⟨3, 10, 4, [1, 1, 0x45, 0x23, 0x01]⟩
      ∧ orderFrame 10 ⟨7, .lamp 2 (some 1) 0xF00D⟩ = ⟨7, 10, 4, [6, 2, 1, 0x0D, 0xF0]⟩
      ∧ orderFrame 10 ⟨7, .lamp 2 none 0⟩ = ⟨7, 10, 4, [6, 2, 255, 0, 0]⟩
      ∧ replyFrame 10 (.alert 1 .noticedrop) = ⟨1, 10, 8, [1, 19]⟩
      ∧ replyFrame 10 (.halt 1 (.residuefull 4)) = ⟨1, 10, 8, [2, 2, 4]⟩
      ∧ replyFrame 10 (.answer 1 0x16 .unknown 127 true []) = ⟨1, 10, 7, [0x16, 8, 255]⟩ ∧ 127 < 128 := by decide

/-- Each of the cases of a bad frame: no header, a stated length of 57, a byte short, a check that disagrees. -/
theorem witness_BadFrames :
    parseFrame [1, 2, 3] = none ∧ parseFrame ([2, 1, 9, 57] ++ List.replicate 59 0) = none
      ∧ parseFrame [2, 1, 9, 1, 0, 0] = none ∧ parseFrame [2, 1, 9, 0, 0, 0] = none := by decide +kernel

theorem witness_CommandsAreFrames :
    (Instr.tick 0 1 5).frameOf = some (messageFrame 0 1 (.tick 5))
      ∧ (Instr.badFrame (frameBytes (sampleFrame 0))).frameOf = some (sampleFrame 0) := by decide +kernel

/-- A frame of the part's own, one for it, a broadcast one and one for station 2. -/
theorem witness_FramesSorted :
    (sampleFrame 2).payload.length ≤ maxPayload
      ∧ station (⟨2, 0, 9, []⟩ : Frame).src = blank.ring.own
      ∧ (station (sampleFrame 0).src ≠ blank.ring.own ∧ station (sampleFrame 0).dest = blank.ring.own)
      ∧ (station (sampleFrame 31).src ≠ blank.ring.own ∧ station (sampleFrame 31).dest = 31 ∧ blank.ring.own ≠ 31)
      ∧ (station (sampleFrame 2).src ≠ blank.ring.own ∧ station (sampleFrame 2).dest ≠ blank.ring.own
        ∧ station (sampleFrame 2).dest ≠ 31) := by decide

/-- A forward queue with 7 and with 8 frames behind a SENDING output, and an idle output within its invariant. -/
theorem witness_ForwardedAndOwnFrames :
    ({ sendingPort with forward := List.replicate 7 (sampleFrame 2) }).forward.length < 8
      ∧ sendingPort.sending.isSome = true
      ∧ (blank.ring.sending = none ∧ ringInvariant blank.ring)
      ∧ 8 ≤ ({ sendingPort with forward := List.replicate 8 (sampleFrame 2) }).forward.length := by
  unfold ringInvariant; decide

theorem witness_UnknownKindDiscarded :
    (sampleFrame 0).payload.length ≤ maxPayload ∧ station (sampleFrame 0).src ≠ blank.ring.own
      ∧ messageOf (sampleFrame 0).kind (sampleFrame 0).payload = none
      ∧ station (sampleFrame 0).dest = blank.ring.own ∧ station (sampleFrame 31).dest = 31 ∧ blank.ring.own ≠ 31 := by
  decide

/-- A SENDING output; an idle one; an order queue with 15 and with 16 orders, and an occupied waiting place. -/
theorem witness_JoiningAQueue :
    sendingPort.sending.isSome = true ∧ (blank.ring.sending = none ∧ ringInvariant blank.ring)
      ∧ ({ sendingPort with orders := List.replicate 15 sampleOrder }).orders.length < 16
      ∧ (16 ≤ fullPort.orders.length ∧ ∀ w ∈ fullPort.waiting, w.place ≠ .lamp 2)
      ∧ ({ fullPort with waiting := [⟨.purge 1, sampleOrder⟩, ⟨.lamp 2, sampleOrder⟩] }).waiting
        = [⟨.purge 1, sampleOrder⟩] ++ ⟨.lamp 2, sampleOrder⟩ :: []
      ∧ ∀ w ∈ ([⟨.purge 1, sampleOrder⟩] : List Waiting), w.place ≠ .lamp 2 := by
  unfold ringInvariant; decide

/-- The five clauses: an order, an order with one waiting, a forwarded frame, an answer, nothing. -/
theorem witness_SendingCompletionGrants :
    (sendingPort.sending.isSome = true ∧ sendingPort.orders = [] ∧ sendingPort.forward = [] ∧ sendingPort.answers = [])
      ∧ (({ sendingPort with orders := [sampleOrder] }).orders = sampleOrder :: [] ∧ sendingPort.waiting = [])
      ∧ (fullPort.orders = sampleOrder :: List.replicate 15 sampleOrder
        ∧ ({ fullPort with waiting := [⟨.purge 1, sampleOrder⟩] }).waiting = ⟨.purge 1, sampleOrder⟩ :: [])
      ∧ (({ sendingPort with forward := [sampleFrame 2], turn := .forward }).forward = sampleFrame 2 :: []
        ∧ sendingPort.answers = [])
      ∧ (({ sendingPort with answers := [sampleAnswer] }).answers = sampleAnswer :: [] ∧ sendingPort.turn = .answer) := by
  decide

/-- A set flag; a clear one that is masked; a clear unmasked one with room and without room for its ALERT. -/
theorem witness_FlagRaising :
    flagSet blank .clockinvalid = true ∧ (flagSet blank .late = false ∧ flagMasked blank .late = true)
      ∧ (flagSet (after (.maskSet 0 1 0) blank) .late = false ∧ flagMasked (after (.maskSet 0 1 0) blank) .late = false
        ∧ 0 < freeAnswerPlaces (after (.maskSet 0 1 0) blank))
      ∧ 0 < freeAnswerPlaces blank
      ∧ freeAnswerPlaces (ringed { sendingPort with answers := List.replicate 6 sampleAnswer }) = 0 := by decide

/-- An intake of 4, of 3 and of none; room for an answer of one part and none. -/
theorem witness_AskIntake :
    (List.replicate 55 (0 : Byte)).length ≤ maxArgs
      ∧ 4 ≤ ({ sendingPort with intake := List.replicate 4 ⟨1, 1, []⟩ }).intake.length
      ∧ (({ sendingPort with intake := List.replicate 3 ⟨1, 1, []⟩ }).intake ≠ []
        ∧ ({ sendingPort with intake := List.replicate 3 ⟨1, 1, []⟩ }).intake.length < 4)
      ∧ (blank.ring.intake = [] ∧ partsNeeded ⟨1, 1, []⟩ blank ≤ freeAnswerPlaces blank)
      ∧ (({ sendingPort with answers := List.replicate 6 sampleAnswer }).intake = []
        ∧ freeAnswerPlaces (ringed { sendingPort with answers := List.replicate 6 sampleAnswer })
          < partsNeeded ⟨1, 1, []⟩ (ringed { sendingPort with answers := List.replicate 6 sampleAnswer })) := by decide

theorem witness_AnswersInParts : (List.replicate 55 (0 : Byte)).length ≤ maxArgs := by decide

/-- A code that names no ask; one argument too many or too few for asks of each kind of length. -/
theorem witness_RefusedAsks :
    ((0x16 : Byte) ∉ askCodes ∧ (0x00 : Byte) ∉ askCodes ∧ ([] : List Byte).length ≤ maxArgs)
      ∧ ((0x01 : Byte) ∈ ([0x01, 0x03, 0x05, 0x09, 0x0F, 0x10] : List Byte) ∧ ([0] : List Byte).length ≠ 0)
      ∧ (([1, 0] : List Byte).length % 2 = 0 ∧ ([1, 0] : List Byte).length ≠ 3 ∧ ([] : List Byte).length ≠ 2)
      ∧ (([0, 0] : List Byte).length ≠ 1 ∧ ([0, 0] : List Byte).length ≠ 3 ∧ 8 < (List.replicate 9 (0 : Byte)).length)
      ∧ (([0] : List Byte).length ≠ 0 ∧ ([0] : List Byte).length ≠ 2) := by decide

theorem witness_IdentifyAndEcho :
    servedAtOnce 0 1 2 blank ∧ (List.replicate 53 (0 : Byte)).length ≤ 53 ∧ 53 < (List.replicate 54 (0 : Byte)).length
      ∧ (List.replicate 55 (0 : Byte)).length ≤ 55 := by
  unfold servedAtOnce addressedToPart; decide

/-- The last second of the last year. -/
theorem witness_SecondEventCarries :
    clockInvariant blank.clock ∧ clockInvariant ⟨99, 12, 31, 23, 59, 59, 7, true, 999999⟩ := by
  unfold clockInvariant; decide

/-- Fields that pass at their greatest values, and fields of which the day fails. -/
theorem witness_ClockAsks :
    servedAtOnce 0 1 1 lane
      ∧ true ∉ ([decide (99 < (99 : Byte).toNat), decide ((12 : Byte).toNat = 0 ∨ 12 < (12 : Byte).toNat),
        decide ((31 : Byte).toNat = 0 ∨ monthLength 99 12 < (31 : Byte).toNat), decide (23 < (23 : Byte).toNat),
        decide (59 < (59 : Byte).toNat), decide (59 < (59 : Byte).toNat),
        decide ((7 : Byte).toNat = 0 ∨ 7 < (7 : Byte).toNat)] : List Bool)
      ∧ decide ((29 : Byte).toNat = 0 ∨ monthLength 31 2 < (29 : Byte).toNat) = true := by
  unfold servedAtOnce addressedToPart; decide

theorem witness_CountsAndWraps :
    ({ blank.tally with live := Vector.replicate 64 4294967294 }).live[(38 : Fin 64)].toNat < 4294967295
      ∧ ({ blank.tally with live := Vector.replicate 64 4294967295 }).live[(38 : Fin 64)].toNat = 4294967295 := by decide

/-- Options 0, 1 and 2; 12 counters from 52, which end at 63, and from 53, which do not. -/
theorem witness_TallyAsks :
    ((1 : Byte) = 0 ∨ (1 : Byte) = 1) ∧ ((2 : Byte) ≠ 0 ∧ (2 : Byte) ≠ 1)
      ∧ (1 ≤ (12 : Byte).toNat ∧ (12 : Byte).toNat ≤ 12 ∧ (52 : Byte).toNat ≤ 63 ∧ (52 : Byte).toNat + (12 : Byte).toNat ≤ 64)
      ∧ (answerParts (List.replicate (5 + 12 * 5) (0 : Byte))).length = 2
      ∧ 64 < (53 : Byte).toNat + (12 : Byte).toNat := by decide

/-- An identifier above 7, a used chance and an unused one. -/
theorem witness_ProtectOnce :
    (∃ b ∈ ([8] : List Byte), 7 < b.toNat) ∧ (∀ b ∈ ([7] : List Byte), b.toNat ≤ 7)
      ∧ (after (.protect 0 1 [7]) blank).store.chanceUsed = true ∧ blank.store.chanceUsed = false := by decide

/-- TABLE OPEN: no table, a protected one, one row too many, and the whole of a table. TABLE ROW: each of its four cases. -/
theorem witness_LoadsBuilt :
    (tableOf 8 = none)
      ∧ (tableOf 7 = some .lamp ∧ isProtected (after (.protect 0 1 [7]) blank).store .lamp = true)
      ∧ (tableOf 2 = some .pattern ∧ isProtected blank.store .pattern = false
        ∧ rowCount .pattern < (2 : Byte).toNat + (6 : Byte).toNat + 1
        ∧ (2 : Byte).toNat + (5 : Byte).toNat + 1 ≤ rowCount .pattern)
      ∧ (blank.store.load = none ∧ (rowBytes patternRow2).length = 16 ∧ (List.replicate 17 (0 : Byte)).length ≠ 16)
      ∧ (patternLoad patternRow3 434).rows.length = (patternLoad patternRow3 434).declared
      ∧ ([patternRow2] : List Row).length ≠ (patternLoad patternRow3 434).declared := by decide

/-- TABLE COMMIT by its tests: no load, RUNNING, protected, short, another sum, a bad row 3, all rows good. -/
theorem witness_TableCommitTests :
    blank.store.load = none ∧ lane.track.mode = .running
      ∧ (loading (patternLoad patternRow3 434) .stopped).store.load = some (patternLoad patternRow3 434)
      ∧ (loading (patternLoad patternRow3 434) .stopped).track.mode = .stopped
      ∧ isProtected (after (.protect 0 1 [2]) (loading (patternLoad patternRow3 434) .stopped)).store .pattern = true
      ∧ isProtected lane.store .pattern = false
      ∧ ([patternRow2] : List Row).length < (patternLoad patternRow3 434).declared
      ∧ (patternLoad patternRow3First 437).sum ≠ 434
      ∧ goodRow lane (overlay lane.store.tables (patternLoad patternRow3First 437)) .pattern 3 = false
      ∧ (∀ j, j < 3 → goodRow lane (overlay lane.store.tables (patternLoad patternRow3First 437)) .pattern j = true)
      ∧ (∀ j, j < 8 → goodRow lane (overlay lane.store.tables (patternLoad patternRow3 434)) .pattern j = true) := by decide

/-- Loads of GEOMETRY and LAMP that pass every test, and of STACKER in a part where GEOMETRY is not committed. -/
theorem witness_TableCommitTests_effects :
    (∀ j, j < 4 → goodRow { lane with store := { lane.store with committed := Vector.replicate 8 false } } sampleTables .geometry j
        = true)
      ∧ (∀ j, j < 8 → goodRow blank (overlay Tables.zero ⟨.stacker, 0, 8, List.replicate 8 (row (words [0, 0, 8])), 64⟩) .stacker j
        = true)
      ∧ goodRow lane (overlay sampleTables ⟨.lamp, 0, 1, [0], 0⟩) .lamp 0 = true := by decide

/-- Both sides of a limit of each table: the cross-check of R6, W of R55, the least length of R97, the warn level of R128, the
cutover hour of R166, the areas of R65, the path of a stacker of R77. -/
theorem witness_TableCommitTests_limits :
    (goodGeometry lane { sampleTables with geometry := sampleTables.geometry.set 0 (row (words [2264, 200, 120, 560, 2000])) } 0
        = true
      ∧ goodGeometry lane { sampleTables with geometry := sampleTables.geometry.set 0 (row (words [2263, 200, 120, 560, 2000])) } 0
        = false)
      ∧ (goodScanset { sampleTables with scanset := sampleTables.scanset.set 0 (row [96, 1, 1]) } 0 = true
        ∧ goodScanset { sampleTables with scanset := sampleTables.scanset.set 0 (row [97, 1, 1]) } 0 = false)
      ∧ (goodPattern (patternRow (row (words [0, 0, 16]))) = true ∧ goodPattern (patternRow (row (words [0, 0, 15]))) = false)
      ∧ (goodStacker blank { sampleTables with stacker := Vector.replicate 8 (row (words [0, 0, 8, 5, 5])) } 2 = true
        ∧ goodStacker blank { sampleTables with stacker := Vector.replicate 8 (row (words [0, 0, 8, 5, 6])) } 2 = false)
      ∧ (goodOffice 10 { sampleTables with office := sampleTables.office.set 0 (row [0, 0, 0, 0, 23]) } 0 = true
        ∧ goodOffice 10 { sampleTables with office := sampleTables.office.set 0 (row [0, 0, 0, 0, 24]) } 0 = false)
      ∧ (goodSignature (signatureEntry (row ([0x11] ++ words [768, 768]))) = true
        ∧ goodSignature (signatureEntry (row ([0x11] ++ words [768, 769]))) = false)
      ∧ (goodRouting (routingRow (row [1, 0, 0, 0, 0, 0, 0, 0, 0, 0, 0, 255, 3, 255, 255])) = true
        ∧ goodRouting (routingRow (row [1, 0, 0, 0, 0, 0, 0, 0, 0, 0, 0, 255, 4, 255, 255])) = false) := by decide

/-- An identifier above 7; the cursor; 3 rows up to the end of PATTERN; one row beyond it; 0 and 4 rows. -/
theorem witness_TableReadAnswersRows :
    tableOf 8 = none ∧ (blank.store.cursorTable = .signature ∧ blank.store.cursorRow = 0) ∧ tableOf 2 = some .pattern
      ∧ (1 ≤ (3 : Byte).toNat ∧ (3 : Byte).toNat ≤ 3 ∧ (5 : Byte).toNat + (3 : Byte).toNat ≤ rowCount .pattern)
      ∧ rowCount .pattern < (6 : Byte).toNat + (3 : Byte).toNat ∧ 3 < (4 : Byte).toNat
      ∧ (answerParts (List.replicate (7 + 3 * 16) (0 : Byte))).length = 2 := by decide

/-- MODE: a target above 3 and a bad entry; a forbidden jump; a missing table; a transition that is applied. -/
theorem witness_ModeTests :
    modeOf 4 = none ∧ ¬((4 : Byte).toNat < 4 ∧ (0 : Byte).toNat ≤ 1)
      ∧ ((3 : Byte).toNat < 4 ∧ (1 : Byte).toNat ≤ 1)
      ∧ (blank.track.mode, LaneMode.draining) ∈ ([(.stopped, .draining), (.running, .service), (.draining, .service),
        (.service, .running), (.service, .draining)] : List (LaneMode × LaneMode))
      ∧ (blank.track.mode = .stopped ∧ isCommitted blank.store .stacker = false
        ∧ (tableNumber .geometry).val = 4 ∧ (tableNumber .stacker).val = 3)
      ∧ ((lane.track.mode, LaneMode.draining) ∉ ([(.stopped, .draining), (.running, .service), (.draining, .service),
        (.service, .running), (.service, .draining)] : List (LaneMode × LaneMode)))
      ∧ (∀ u ∈ ([.stacker, .geometry, .scanset, .office] : List TableId), isCommitted lane.store u = true) := by decide

/-- A track with a letter and one without; counters and letters that no abandonment brings to a wrap. -/
theorem witness_ModeTransitions :
    (withOpen 100000).track.letters ≠ [] ∧ lane.track.letters = []
      ∧ (withOpen 100000).tally.live[tallyOfRetirement .abandoned].toNat + (withOpen 100000).track.letters.length < 4294967296 := by
  decide

/-- An entry into STOPPED purges the heads that wait for it, 0 before 3, and keeps the fault window of a READY head (R25, R95). -/
theorem test_stop_purges :
    ∀ t, t = applyMode .stopped { lane with
        ring := sendingPort
        heads := #v[{ headIn .purgeWait with bookings := [sampleBooking] }, { headIn .ready with faultWindow := some ⟨50, 20⟩ },
          headIn .disabled, { headIn .purgeWait with bookings := [sampleBooking] }] } →
      t.heads[0] = { headIn .purging with purge := some ⟨1000, 1000⟩ }
        ∧ t.heads[1] = { headIn .ready with faultWindow := some ⟨50, 20⟩ }
        ∧ t.ring.orders = [⟨3, .purge 0⟩, ⟨6, .purge 3⟩] ∧ t.tally.live[tallyPrintfail] = 0 := by
  intro t h
  subst h
  decide +kernel

/-- Heads 3 and 4 as numbers, and a head in each state, which an entry of a MODE ask (R24) or a HEAD CONTROL ask finds; an action
outside the five. -/
theorem witness_HeadControl :
    4 ≤ (4 : Byte).toNat ∧ (3 : Byte).toNat = (3 : Fin 4).val ∧ 5 ≤ (5 : Byte).toNat
      ∧ (∀ st ∈ ([.disabled, .ready, .purgeWait, .purging, .resting, .latched] : List HeadState),
        (withHead (headIn st)).heads[(3 : Fin 4)].state = st ∧ servedAtOnce 0 1 1 (withHead (headIn st))) := by
  unfold servedAtOnce addressedToPart; decide

/-- A READY head with a booking and without, and a purge with and without its abort indicator. -/
theorem witness_HeadPurgeAndAbort :
    ({ headIn .ready with bookings := [sampleBooking] }).bookings ≠ [] ∧ (headIn .ready).bookings = []
      ∧ ({ headIn .purging with abort := true }).abort = true ∧ (headIn .purging).abort = false := by decide

/-- A READY head outside and inside its fault window. -/
theorem witness_HeadFaultTaken :
    (headIn .ready).faultWindow = none ∧ ({ headIn .ready with faultWindow := some ⟨50, 50⟩ }).faultWindow.isSome = true := by
  decide

/-- The tag of a HEADFAULT: a DONE print on the reporting head becomes FAILED and is counted, a PLANNED one does neither (R105). -/
theorem test_headfault_tag :
    (∀ st ∈ ([.done, .planned] : List PrintStatus), ∀ t,
      t = after (.headfault 0 1 0 (some 41)) { lane with track := { lane.track with
        letters := [{ letter41 with print := some ⟨0, 100, 50, 2, st⟩ }] } } →
      t.track.letters.map (fun l => l.print.map Print.status) = [some (if st = .done then .failed else .planned)]
        ∧ t.tally.live[tallyPrintfail] = if st = .done then 1 else 0) := by
  intro st h t ht
  subst ht
  revert st
  decide

/-- Heads whose purge, rest or window is running, and one with none of them. -/
theorem witness_PurgesRestsAndWindowsEnd :
    (headIn .purging).state = .purging ∧ (headIn .ready).state ≠ .purging
      ∧ ({ headIn .resting with restart := some ⟨100, 1⟩ }).restart.isSome = true := by decide

theorem witness_SweepsEmptyStackers :
    8 ≤ (8 : Byte).toNat ∧ (7 : Byte).toNat = (7 : Fin 8).val ∧ servedAtOnce 0 1 3 lane := by
  unfold servedAtOnce addressedToPart; decide

/-- A stacker whose lamp stands, and one whose lamp must change. -/
theorem witness_LampsFollowCounts :
    LampCondition.normal = lane.stackers[(2 : Fin 8)].lamp
      ∧ lampConditionOf { lane with stackers := Vector.replicate 8 ⟨10, 0, .normal⟩ } 2 = .full := by decide

/-- A window's first and last position are in it and the position beyond is not; the oldest of two letters stands first. -/
theorem witness_ArrivalsMatched :
    8 ≤ (8 : Byte).toNat ∧ (7 : Byte).toNat = (7 : Fin 8).val
      ∧ expectsArrival 2 68800 (routed 101 60000 2) = true ∧ expectsArrival 2 69200 (routed 101 60000 2) = true
      ∧ expectsArrival 2 69201 (routed 101 60000 2) = false
      ∧ (([routed 100 59000 3, routed 101 60000 2, routed 102 60100 2] : List Letter).map Letter.seq).Nodup
      ∧ (∀ b ∈ ([routed 100 59000 3] : List Letter), expectsArrival 2 69000 b = false) := by decide

/-- A DRAINING lane whose one letter is bound for stacker 2, which it makes NEAR, and keeps head 1 in PURGE-WAIT. -/
def lastLetter : State :=
  { lane with
    track := { lane.track with letters := [routed 101 60000 2], mode := .draining }
    heads := lane.heads.set 1 { headIn .purgeWait with bookings := [{ sampleBooking with tag := 101 }] }
    stackers := lane.stackers.set 2 ⟨1, 7, .near⟩
    ring := sendingPort }

/-- A loss darkens the lamp, then starts the purge (R110, R136, R141); a delivery leaves the lamp (R139). Both complete the drain (R26). -/
theorem test_retirements :
    (∀ t, t = retire (routed 101 60000 2) .lost lastLetter →
      t.stackers[2] = ⟨0, 7, .normal⟩ ∧ t.heads[1] = { headIn .purging with purge := some ⟨1000, 1000⟩ }
        ∧ t.ring.orders = [⟨7, .lamp 2 none 0⟩, ⟨4, .purge 1⟩] ∧ t.track.mode = .stopped)
      ∧ ∀ t, t = after (.arrive 0 1 2 69000) lastLetter →
        t.stackers[2] = ⟨0, 8, .near⟩ ∧ t.heads[1] = { headIn .purging with purge := some ⟨1000, 1000⟩ }
          ∧ t.ring.orders = [⟨4, .purge 1⟩] ∧ t.track.mode = .stopped := by
  constructor
  all_goals
    intro t h
    subst h
    decide

/-- The farthest position ahead of belt 0, the nearest behind it, and nothing in flight. -/
theorem witness_PositionsAdvanceTheBelt :
    (((8388607 : Pos).toNat + 16777216 - blank.position.belt.toNat) % 16777216 < 8388608 ∧ (8388607 : Pos) ≠ blank.position.belt)
      ∧ ¬(((8388608 : Pos).toNat + 16777216 - blank.position.belt.toNat) % 16777216 < 8388608)
      ∧ blank.track.letters = [] ∧ blank.routing.plan = [] ∧ noBookings blank := by
  unfold noBookings; decide

/-- With the belt at 101,000: a deadline that is reached and one that is one count ahead, for a letter in each state; a window end
that is reached and one that is not; a letter with a disposition. -/
theorem witness_PositionsAdvanceTheBelt_tests :
    lane.position.belt = 101000 ∧ findLetter lane 7 = none
      ∧ ((letter 7 98800 700 .queued).deadline = 101000 ∧ ((101000 : Pos) - 101000).toNat < 8388608)
      ∧ ((letter 7 98801 700 .evaluating).deadline = 101001 ∧ ¬((101000 : Pos) - 101001).toNat < 8388608)
      ∧ findLetter (withOpen 98800) 7 = some (opened 7 98800) ∧ (opened 7 98800).state = .opened
      ∧ ((routed 7 91800 2).window = some ⟨100600, 101000⟩ ∧ (routed 7 91800 2).state = .routed)
      ∧ ((routed 7 91801 2).window = some ⟨100601, 101001⟩ ∧ 8388608 ≤ ((101000 : Pos) - 101001).toNat)
      ∧ (routed 7 91800 2).disposition = some ⟨.straight, 2, some 1, none⟩ := by decide

/-- A list with one booking that is reached and one that is not, and a head in PURGE-WAIT whose only booking is reached. -/
theorem witness_PlanRetirement :
    ((101000 : Pos) - 101000).toNat < 8388608 ∧ 8388608 ≤ ((101000 : Pos) - 101001).toNat
      ∧ ([] : List Booking).head? = none
      ∧ (expireHead 0 (withHead { headIn .purgeWait with bookings := [⟨40, 100700, 101000, 101040⟩] })).heads[0].state
        = .purging
      ∧ (expireHead 0 (withHead { headIn .purgeWait with
          bookings := [⟨40, 100700, 101000, 101040⟩, ⟨41, 101100, 101400, 101440⟩] })).heads[0].bookings
        = [⟨41, 101100, 101400, 101440⟩] := by decide

/-- The lane distances of section 1.8. -/
theorem test_lane_distances : lane.position.lane = some ⟨2200, 2400, 3000, 3216⟩ := by decide

/-- A LEAD edge behind the belt in STOPPED; one in RUNNING on an empty track, on a track with an OPEN letter and on a full one. -/
theorem witness_LeadEdgeTaken :
    (takePosition 0 blank).track.mode = .stopped ∧ (takePosition 100500 lane).track.mode = .running
      ∧ openLetter (takePosition 100500 (withOpen 100000)) = some (opened 7 100000)
      ∧ (takePosition 100500 lane).track.letters.length < 32
      ∧ 32 ≤ ((takePosition 100500 { lane with track := { lane.track with
          letters := (List.range 32).map fun i => letter (BitVec.ofNat 16 i) 100000 700 .queued } }).track.letters).length := by
  decide

/-- A TRAIL edge for an OPEN letter, at its leading position, and with no letter OPEN, expected and not. -/
theorem witness_TrailEdgeTaken :
    openLetter (takePosition 100000 (withOpen 100000)) = some (opened 7 100000)
      ∧ openLetter (takePosition 100000 lane) = none ∧ (takePosition 100000 lane).track.trailExpected = false
      ∧ (takePosition 100000 { lane with track := { lane.track with trailExpected := true } }).track.trailExpected = true
      ∧ (evaluating letter41).eval.busy = true ∧ (lane.eval.busy = false ∧ lane.eval.queue = []) := by
  decide

/-- An empty context; lengths of 4W and of one less; the ranges that R49 gives them. -/
theorem witness_CloseRecordsLetter :
    (withOpen 100000).scan.context
        = some ⟨7, 100000, none, 0, 0, emptyWindow, emptyWindow, emptyWindow, emptyWindow⟩
      ∧ (4 * (scansetOf sampleTables).window ≤ 256 ∧ 255 < 4 * (scansetOf sampleTables).window)
      ∧ ∀ c, (withOpen 100000).scan.context = some c →
        (formWindows (scansetOf sampleTables) 300 c lane.scan)[1].range = ⟨44, 299⟩
        ∧ (formWindows (scansetOf sampleTables) 255 c lane.scan)[1].range = ⟨0, 254⟩ := by
  refine ⟨by decide, by decide, fun c h => ?_⟩
  cases h
  decide

/-- A line without a context, one behind the leading position, and offsets 0, 4,095 and 4,096. -/
theorem witness_LinesClassed :
    (takePosition 100000 lane).scan.context = none
      ∧ atOrPast 99999 (100000 : Pos) = false ∧ atOrPast 100000 (100000 : Pos) = true
      ∧ (distance 100000 104095 ≤ 4095 ∧ atOrPast 104095 (100000 : Pos) = true)
      ∧ (4095 < distance 100000 104096 ∧ atOrPast 104096 (100000 : Pos) = true) := by decide

/-- The limits of a window's sums, and its span (R45, R50, R51). -/
theorem test_window_limits :
    addHalf ⟨⟨16777000, 0, 0⟩, ⟨767, 0, 0⟩, some ⟨10, 20⟩⟩ 5 ⟨⟨400, 80, 0⟩, ⟨2, 0, 0⟩, true⟩
      = ⟨⟨16777215, 80, 0⟩, ⟨768, 0, 0⟩, some ⟨5, 20⟩⟩ := by decide

/-- Windows with no mark, with one facing mark, and with two that no area parts. -/
theorem witness_VerdictChosen :
    verdictOf sampleTables (Vector.replicate 8 (recordOf ⟨0, 255⟩ emptyWindow)) = (⟨.none, none, 0, none, none⟩, false)
      ∧ verdictOf sampleTables sampleWindows = (sampleVerdict, false)
      ∧ verdictOf sampleTables (sampleWindows.set 3 sampleWindows[0]) = (⟨.ambiguous, none, 1, some 0, none⟩, true) := by
  decide

/-- A busy unit without a subject, with and without a queue, and one whose subject is EVALUATING or has become ROUTED. -/
theorem witness_EvaluationCompletes :
    (⟨true, none, []⟩ : EvaluationUnit).busy = true ∧ (⟨true, none, [5]⟩ : EvaluationUnit).queue = 5 :: []
      ∧ ((evaluating scanned41).eval.busy = true ∧ (evaluating scanned41).eval.subject = some 41
        ∧ findLetter (evaluating scanned41) 41 = some scanned41 ∧ scanned41.windows = some sampleWindows
        ∧ verdictOf (evaluating scanned41).store.tables sampleWindows = (sampleVerdict, false)
        ∧ scanned41.state = .evaluating)
      ∧ (findLetter (evaluating { scanned41 with state := .routed }) 41 = some { scanned41 with state := .routed }
        ∧ ({ scanned41 with state := .routed }).state = .routed) := by decide

/-- An empty plan and one with a last entry; a gap of S_gate and one below it. -/
theorem witness_GateCheckCases :
    (⟨[], .straight⟩ : RoutingUnit).plan = []
      ∧ (⟨[⟨51, .turn, 20990, 21690, 24090, false⟩], .turn⟩ : RoutingUnit).plan = [] ++ [⟨51, .turn, 20990, 21690, 24090, false⟩]
      ∧ (Path.turn ≠ .straight)
      ∧ ((21810 : Pos) - 21690).toNat = (geometryOf sampleTables).sGate ∧ ((21809 : Pos) - 21690).toNat < 120 := by decide

/-- The row of section 5.9 that a STRAIGHT letter matches, and a verdict that no row takes; a primary with room, one without
room and its alternate, and neither (R78, R81, R132). -/
theorem witness_GateCheckCases_rows :
    letter41.length = some 960 ∧ selectRow sampleTables letter41 sampleVerdict = some 1
      ∧ selectRow sampleTables letter41 ⟨.none, none, 0, none, none⟩ = none
      ∧ matchesRow letter41 ⟨.none, none, 0, none, none⟩ (routingRow (row [0x09, 0xFF, 1, 0, 0, 0, 0, 0, 0xFF, 15])) = true
      ∧ matchesRow letter41 ⟨.none, none, 0, none, none⟩ (routingRow (row [0x09, 0xFE, 1, 0, 0, 0, 0, 0, 0xFF, 15])) = false
      ∧ rowRequest lane .straight 2 (some 3) = some 2
      ∧ rowRequest { lane with stackers := lane.stackers.set 2 ⟨4, 6, .full⟩ } .straight 2 (some 3) = some 3
      ∧ rowRequest { lane with stackers := lane.stackers.set 2 ⟨4, 6, .full⟩ } .straight 2 none = none := by decide

/-- The fields of row 1 of section 5.9, which a decision's hypotheses name. -/
theorem witness_DecisionCommits_row :
    (∀ r, r = routingRow (tableRow lane.store.tables .routing 1) → r.path = (if Path.straight = .straight then 0 else 1)
        ∧ r.pattern = (some (2 : Fin 8)).map Fin.val ∧ r.primary = (2 : Fin 8).val ∧ r.alternate = (some (3 : Fin 8)).map Fin.val
        ∧ r.tally = some 38)
      ∧ lane.position.stackers = some (stackerDistances sampleTables) := by
  refine ⟨fun r h => ?_, by decide⟩
  subst h
  decide

/-- A decision that books and stacks sends PRINT and STACK behind a SENDING output; one whose gate check is FORCED counts and
sends neither. -/
theorem test_decisions :
    ((routingDecision letter41 sampleVerdict { evaluating letter41 with ring := sendingPort }).ring.orders.map OrderFrame.dest
        = [3, 7])
      ∧ (∀ t, t = routingDecision letter41 sampleVerdict { evaluating letter41 with
          ring := sendingPort, routing := ⟨[⟨40, .turn, 99000, 99960, 102360, false⟩], .turn⟩ } →
        t.ring.orders = [] ∧ t.tally.live[tallyForced] = 1
          ∧ t.track.letters.map (fun l => l.disposition.map Disposition.cause) = [some (some .forced)]) := by
  refine ⟨by decide, fun t h => ?_⟩
  subst h
  decide

/-- An IDLE output sends the PRINT of a decision at once, and the STACK waits (R179). -/
theorem test_decision_idle :
    ∀ t, t = routingDecision letter41 sampleVerdict (evaluating letter41) →
      t.ring.sending.map Frame.dest = some 3 ∧ t.ring.orders.map OrderFrame.dest = [7] := by
  intro t h
  subst h
  decide

/-- An IDLE output that meets the ring port's invariant, and counters that no decision brings to a wrap. -/
theorem witness_DecisionCommits_idle :
    (evaluating letter41).ring.sending = none ∧ ringInvariant (evaluating letter41).ring
      ∧ ∀ j : Fin 64, (evaluating letter41).tally.live[j].toNat + 4 < 4294967296 := by
  refine ⟨by decide, ?_, by decide⟩
  unfold ringInvariant
  decide

/-- 14 orders; 13 orders and a letter of the track. -/
theorem witness_LateDispositionGiven_and_DecisionCommits :
    14 ≤ ({ sendingPort with orders := List.replicate 14 sampleOrder }).orders.length
      ∧ ({ sendingPort with orders := List.replicate 13 sampleOrder }).orders.length ≤ 13
      ∧ findLetter { lane with track := { lane.track with letters := [letter41] } } 41 = some letter41
      ∧ (([letter41] : List Letter).map Letter.seq).Nodup := by decide

/-- A late disposition issues the LAMP order of stacker 0 at its warn level and no other, and leaves it waiting behind a full order
queue (R88, R136, R180). -/
theorem test_late_orders :
    (∀ t, t = lateDisposition letter41 .late { lane with ring := sendingPort, stackers := lane.stackers.set 0 ⟨4, 40, .normal⟩ } →
      t.stackers[0] = ⟨5, 40, .near⟩ ∧ t.ring.orders = [⟨7, .lamp 0 none 0⟩] ∧ t.ring.waiting = [])
      ∧ ∀ t, t = lateDisposition letter41 .late { lane with ring := fullPort, stackers := lane.stackers.set 0 ⟨4, 40, .normal⟩ } →
        t.ring.orders = fullPort.orders ∧ t.ring.waiting = [⟨.lamp 0, ⟨7, .lamp 0 none 0⟩⟩] := by
  constructor
  all_goals
    intro t h
    subst h
    decide

/-- A read from the oldest letter and one that skips a letter before its starting number. -/
theorem witness_TrackReadAnswers :
    ([routed 101 60000 2, routed 102 61000 2] : List Letter) = [routed 101 60000 2] ++ [routed 102 61000 2]
      ∧ (∀ l ∈ ([routed 101 60000 2] : List Letter), 32768 ≤ (l.seq - 102).toNat)
      ∧ ((routed 102 61000 2).seq - 102).toNat < 32768
      ∧ (answerParts (List.replicate (8 + 3 * 37) (0 : Byte))).length ≤ 3 := by decide +kernel

/-- The bytes of R191 for an OPEN letter, which has no field but its number, position and deadline. -/
theorem test_letter_bytes :
    letterData (opened 7 100000) = [7, 0, 0xA0, 0x86, 0x01, 255, 255, 0, 0, 255, 255, 0, 255] ++ List.replicate 12 255 := by
  decide

/-- The reset state and a lane with a letter OPEN meet the invariants of the kept statements, and both take a step. -/
theorem witness_kept_invariants :
    ringInvariant blank.ring ∧ clockInvariant blank.clock ∧ scanInvariant blank.scan
      ∧ (∀ h : Fin 4, headInvariant lane.heads[h]) ∧ trackInvariant (withOpen 100000)
      ∧ stackerInvariant (withOpen 100000) ∧ modeInvariant (withOpen 100000) ∧ planInvariant lane.routing := by
  refine ⟨?_, ?_, ?_, fun h => ?_, ?_, ?_, ?_, ?_⟩
  · unfold ringInvariant; decide
  · unfold clockInvariant; decide
  · unfold scanInvariant; decide
  · revert h; unfold headInvariant; decide
  · unfold trackInvariant; decide
  · unfold stackerInvariant; decide
  · unfold modeInvariant; decide
  · unfold planInvariant; decide

/-- The evaluation unit of the same lane, an open load, and the flag of an INVALID clock. -/
theorem witness_kept_invariants_rest :
    evalInvariant (withOpen 100000) ∧ loadInvariant (loading (patternLoad patternRow3 434) .stopped).store
      ∧ clockFlagInvariant blank ∧ routingRowsGood lane := by
  refine ⟨⟨by decide, by decide, ?_, by decide⟩, ?_, fun _ => by decide, ?_⟩
  · intro q h
    cases h
  · intro l h
    cases h
    decide
  · unfold routingRowsGood; decide

/-- A queue whose front is no power-on reset and no tally freeze. -/
theorem witness_kept_commands :
    ¬atPowerOnReset (lane.withPending [.secondEvent]) ∧ (∀ a ∈ lane.ring.intake, a.code ≠ 0x0C)
      ∧ (lane.track.letters.map Letter.seq).Nodup
      ∧ (after (.protect 0 1 [2]) lane).store.chanceUsed = true ∧ isCommitted lane.store .pattern = true := by
  refine ⟨?_, by decide, by decide, by decide, by decide⟩
  rintro ⟨k, rest, h⟩
  cases h

theorem witness_PathConversion : (2399 : Nat) < 2400 ∧ (2400 : Nat) ≤ 2400 ∧ (2400 : Nat) ≤ 24575 := by decide

end Sys2Proof.Tests
end

section
/-! SUPPORT. A LINE at the scan unit: how it reaches the unit, its class, its partial, and a half added to a window (R41 to R45, R50,
R51). -/

namespace Sys2Proof.Machine

/-! ## A LINE at the ring input (R175 to R177) -/

@[simp] theorem natBytes_length (n : Nat) : ∀ w, (natBytes n w).length = n := by
  induction n with
  | zero => exact fun _ => rfl
  | succ n ih => exact fun _ => congrArg Nat.succ (ih _)

/-- A LINE carries a head byte, three position bytes and 48 sample bytes (R190). -/
theorem messagePayload_line_length (h : ScanHead) (x : Pos) (samples : Vector (BitVec 16) 24) :
    (messagePayload (.line h x samples)).length = 52 := by
  simp [messagePayload, posBytes, sampleBytes, List.length_flatMap]

/-- A good frame for the own station from another is handled and not forwarded (R176). -/
theorem deliver_taken {dest src : Byte} {s : State} {m : Message} (ha : addressedToPart dest src s)
    (hm : (messagePayload m).length ≤ maxPayload) : deliver dest src m s = takeMessage (station src) m s := by
  obtain ⟨hsrc, hdest⟩ := ha
  calc deliver dest src m s
      = routeFrame (messageFrame dest src m) (takeMessage (station src) m) s := if_neg (Nat.not_lt.mpr hm)
    _ = takeMessage (station src) m s := (if_neg hsrc).trans (if_pos hdest)

/-- A taken LINE changes the scan unit alone once its position is taken (R3, R41). -/
theorem exec_line_taken {dest src : Byte} {s u : State} {x : Pos} (ha : addressedToPart dest src s) (hu : u = takePosition x s)
    (h : ScanHead) (samples : Vector (BitVec 16) 24) :
    exec (.line dest src h x samples) s
      = .next (u.withScan (scanLine (scansetOf u.store.tables) h x samples u.scan)) := by
  have fits : (messagePayload (.line h x samples)).length ≤ maxPayload := by
    rw [messagePayload_line_length]
    decide
  subst hu
  exact congrArg Host.Outcome.next (deliver_taken ha fits)

/-! ## The class of a line (R41) -/

section
variable {u : ScanUnit} {x : Pos} (k : Scanset) (h : ScanHead) (samples : Vector (BitVec 16) 24)

theorem scanLine_background (hb : u.context = none ∨ ∃ c, u.context = some c ∧ atOrPast x c.leading = false) :
    scanLine k h x samples u = backgroundLine h samples u := by
  obtain hn | ⟨c, hc, hx⟩ := hb
  · simp [scanLine, hn]
  · simp [scanLine, hc, hx]

theorem scanLine_ignored {c : ScanContext} (hc : u.context = some c) (hx : atOrPast x c.leading = true)
    (ho : 4095 < distance c.leading x) : scanLine k h x samples u = u := by
  simp [scanLine, offsetIn, hc, hx, Nat.not_le.mpr ho]

theorem scanLine_assigned {c : ScanContext} (hc : u.context = some c) (hx : atOrPast x c.leading = true)
    (ho : distance c.leading x ≤ 4095) :
    scanLine k h x samples u = assignedLine k h samples (distance c.leading x) c u := by
  simp [scanLine, offsetIn, hc, hx, ho]

end

/-- The bg8 values after a BACKGROUND line (R42). -/
theorem updateBackgrounds_get (bg : Vector Nat 24) (samples : Vector (BitVec 16) 24) (i : Fin 24) :
    (updateBackgrounds bg samples)[i] = bg[i] - bg[i] / 8 + samples[i].toNat % 1024 := by
  simp [updateBackgrounds, updateBackground, sampleOf]

/-! ## The context after an ASSIGNED line (R44, R45) -/

theorem greatestWith_eq (g : Option Nat) (o : Nat) : greatestWith g o = some (max (g.getD 0) o) := by
  cases g with
  | none => simp [greatestWith]
  | some m => rfl

/-- The offsets of a leading window are those up to 4W − 1, of which there are none with W = 0. -/
theorem inLeading_iff (o w : Nat) : o < 4 * w ↔ o ≤ 4 * w - 1 ∧ 0 < w := by omega

theorem contextWith_f (k : Scanset) (p : LinePartial) (c : ScanContext) :
    contextWith k .f p c = { c with
      greatest := some (max (c.greatest.getD 0) p.offset)
      countF := satInc16 c.countF
      ftl := if p.offset ≤ 4 * k.window - 1 ∧ 0 < k.window then addHalf c.ftl p.offset p.upper else c.ftl
      fbl := if p.offset ≤ 4 * k.window - 1 ∧ 0 < k.window then addHalf c.fbl p.offset p.lower else c.fbl } := by
  simp [contextWith, greatestWith_eq, inLeading_iff]

theorem contextWith_r (k : Scanset) (p : LinePartial) (c : ScanContext) :
    contextWith k .r p c = { c with
      greatest := some (max (c.greatest.getD 0) p.offset)
      countR := satInc16 c.countR
      rtl := if p.offset ≤ 4 * k.window - 1 ∧ 0 < k.window then addHalf c.rtl p.offset p.upper else c.rtl
      rbl := if p.offset ≤ 4 * k.window - 1 ∧ 0 < k.window then addHalf c.rbl p.offset p.lower else c.rbl } := by
  simp [contextWith, greatestWith_eq, inLeading_iff]

/-! ## The partial of a line (R43) -/

/-- The cells of a set, as numbers below 8. -/
def setCells (set : Nat) : List (Fin 8) := (List.finRange 8).filter fun c => set.testBit c.val

theorem cellsOf_eq (set : Nat) : cellsOf set = (setCells set).map Fin.val := by
  rw [cellsOf, ← List.map_coe_finRange_eq_range, List.filter_map]
  rfl

section
variable {bg : Vector Nat 24} {samples : Vector (BitVec 16) 24} {excess : Fin 8 → Fin 3 → Nat}
  (he : ∀ (c : Fin 8) (b : Fin 3), excess c b = samples[3 * c.val + b.val].toNat % 1024 - bg[3 * c.val + b.val] / 8)
include he

theorem excessAt_eq (c : Fin 8) (b : Fin 3) : excessAt bg samples c b = excess c b := by
  have inTable : 3 * c.val + b.val < 24 := by omega
  simp [excessAt, excessOf, sampleOf, he, inTable]

theorem excessSum_eq (set : Nat) (b : Fin 3) :
    excessSum bg samples set b = ((setCells set).map fun c => excess c b).sum := by
  simp [excessSum, cellsOf_eq, Function.comp_def, excessAt_eq he]

theorem hitCount_eq (set hit : Nat) (b : Fin 3) :
    hitCount bg samples set b hit = ((setCells set).filter fun c => hit ≤ excess c b).length := by
  simp [hitCount, cellsOf_eq, List.filter_map, Function.comp_def, excessAt_eq he]

/-- A band has hits in a set where a cell of the set reaches its level. -/
theorem hitCount_pos_iff (set hit : Nat) (b : Fin 3) :
    0 < hitCount bg samples set b hit ↔ ∃ c ∈ setCells set, hit ≤ excess c b := by
  simp [hitCount_eq he, List.length_pos_iff_exists_mem]

theorem halfPartial_excess (k : Scanset) (set : Nat) :
    (halfPartial k bg samples set).excess
      = ⟨((setCells set).map fun c => excess c 0).sum, ((setCells set).map fun c => excess c 1).sum,
        ((setCells set).map fun c => excess c 2).sum⟩ := by
  rw [← excessSum_eq he, ← excessSum_eq he, ← excessSum_eq he]
  rfl

theorem halfPartial_hits (k : Scanset) (set : Nat) :
    (halfPartial k bg samples set).hits
      = ⟨((setCells set).filter fun c => k.hit.glow ≤ excess c 0).length,
        ((setCells set).filter fun c => k.hit.fluor ≤ excess c 1).length,
        ((setCells set).filter fun c => k.hit.red ≤ excess c 2).length⟩ := by
  rw [← hitCount_eq he, ← hitCount_eq he, ← hitCount_eq he]
  rfl

theorem halfPartial_mark_iff (k : Scanset) (set : Nat) :
    (halfPartial k bg samples set).mark = true
      ↔ ∃ c ∈ setCells set, k.hit.glow ≤ excess c 0 ∨ k.hit.fluor ≤ excess c 1 ∨ k.hit.red ≤ excess c 2 := by
  have glow := hitCount_pos_iff he set k.hit.glow 0
  have fluor := hitCount_pos_iff he set k.hit.fluor 1
  have red := hitCount_pos_iff he set k.hit.red 2
  simp only [and_or_left, exists_or, ← glow, ← fluor, ← red]
  simp only [halfPartial, decide_eq_true_eq, Fin.val_zero, Fin.val_one, Fin.val_two]
  omega

end

/-! ## The statement, part by part -/

section
variable {dest src : Byte} {x : Pos} {s u : State} (ha : addressedToPart dest src s) (hu : u = takePosition x s)
  (samples : Vector (BitVec 16) 24)
include ha hu

theorem exec_line_background
    (hb : u.scan.context = none ∨ ∃ c, u.scan.context = some c ∧ atOrPast x c.leading = false) (h : ScanHead) :
    exec (.line dest src h x samples) s = .next (u.withScan (backgroundLine h samples u.scan)) := by
  rw [exec_line_taken ha hu, scanLine_background _ _ _ hb]

theorem exec_line_ignored {c : ScanContext} (hc : u.scan.context = some c) (hx : atOrPast x c.leading = true)
    (ho : 4095 < distance c.leading x) (h : ScanHead) : exec (.line dest src h x samples) s = .next u := by
  rw [exec_line_taken ha hu, scanLine_ignored _ _ _ hc hx ho]
  rfl

theorem exec_line_assigned {c : ScanContext} (hc : u.scan.context = some c) (hx : atOrPast x c.leading = true)
    (ho : distance c.leading x ≤ 4095) (h : ScanHead) :
    exec (.line dest src h x samples) s
      = .next (u.withScan
          (assignedLine (scansetOf u.store.tables) h samples (distance c.leading x) c u.scan)) := by
  rw [exec_line_taken ha hu, scanLine_assigned _ _ _ hc hx ho]

end

/-- Settles O46. Each class of a line is its equation for exec with that class's change of the scan unit; the partial and the
addition to a window are the equations of halfPartial and addHalf. -/
theorem linesClassed : Obligations.LinesClassed := by
  refine ⟨fun dest src x samples s ha u k hu hk => ⟨fun hb => ?background, fun c hc hx => ⟨?ignored, fun ho => ?assigned⟩⟩,
    ?measured, ?added⟩
  case background =>
    exact ⟨⟨_, exec_line_background ha hu samples hb .f, updateBackgrounds_get _ samples⟩,
      ⟨_, exec_line_background ha hu samples hb .r, updateBackgrounds_get _ samples⟩⟩
  case ignored => exact exec_line_ignored ha hu samples hc hx
  case assigned =>
    subst hk
    constructor
    · rintro p rfl
      exact ⟨_, exec_line_assigned ha hu samples hc hx ho .f, contextWith_f _ _ c⟩
    · rintro p rfl
      exact ⟨_, exec_line_assigned ha hu samples hc hx ho .r, contextWith_r _ _ c⟩
  case measured =>
    rintro k bg samples o p rfl excess he
    refine ⟨rfl, fun set half hmem cells hcells => ?_⟩
    have isHalf : half = halfPartial k bg samples set := by
      simp only [List.mem_cons, Prod.mk.injEq, List.not_mem_nil, or_false] at hmem
      obtain ⟨rfl, rfl⟩ | ⟨rfl, rfl⟩ := hmem <;> rfl
    subst isHalf hcells
    exact ⟨halfPartial_excess he k set, halfPartial_hits he k set, halfPartial_mark_iff he k set⟩
  case added =>
    rintro w o half _ rfl
    refine ⟨rfl, rfl, fun hm => ?_, fun hm hs => ?_, fun hm x hs => ?_⟩
    · simp [addHalf, hm]
    · simp [addHalf, takeIn, hm, hs]
    · simp [addHalf, takeIn, hm, hs]

end Sys2Proof.Machine
end

section
/-! SUPPORT. The mark of a window and the verdict of a stage: the first entry matched, the winner of the candidates, and the tie
(R66 to R71). -/

namespace Sys2Proof.Machine

/-! ## The mark of a window (R66, R67) -/

/-- The band codes as cases; every code above 1 reads RED (notes/assumptions/25.md). -/
theorem bandOf_eq (b : Bands) (code : Nat) : bandOf b code = (match code with
    | 0 => b.glow
    | 1 => b.fluor
    | _ => b.red) := by
  match code with
  | 0 | 1 | _ + 2 => rfl

theorem matchesEntry_iff (w : WindowRecord) (e : SignatureEntry) :
    matchesEntry w e = true ↔
      e.enabled = true
      ∧ (e.areaMin ≤ bandOf w.sum.area e.band ∧ bandOf w.sum.area e.band ≤ e.areaMax)
      ∧ e.strengthMin.glow ≤ w.sum.strength.glow ∧ e.strengthMin.fluor ≤ w.sum.strength.fluor
      ∧ e.strengthMin.red ≤ w.sum.strength.red
      ∧ e.qLow ≤ w.q ∧ w.q ≤ e.qHigh := by
  simp only [matchesEntry, Bool.and_eq_true, decide_eq_true_eq, and_assoc]

section
variable (ts : Tables) (w : WindowRecord)

theorem markOf_eq_some_iff (i : Nat) :
    markOf ts w = some i ↔ i < 16 ∧ matchesEntry w (entryInForce ts i) = true
      ∧ ∀ j, j < i → matchesEntry w (entryInForce ts j) = false := by
  simp only [markOf, List.find?_range_eq_some, List.mem_range, Bool.not_eq_true', and_left_comm]

theorem markOf_eq_none_iff :
    markOf ts w = none ↔ ∀ j, j < 16 → matchesEntry w (entryInForce ts j) = false := by
  simp only [markOf, List.find?_range_eq_none, Bool.not_eq_true']

end

/-! ## The candidates of a stage (R68) -/

/-- The mark of a corner's window. -/
def cornerMark (ts : Tables) (ws : Vector WindowRecord 8) (c : Corner) : Option Nat := markOf ts ws[cornerNumber c]

/-- The area of a corner's window in the area band of the entry that marks it. -/
def cornerArea (ts : Tables) (ws : Vector WindowRecord 8) (c : Corner) : Nat :=
  bandOf ws[cornerNumber c].sum.area (entryInForce ts ((cornerMark ts ws c).getD 0)).band

section
variable {ts : Tables} {ws : Vector WindowRecord 8} {cs : List Corner}

/-- The candidates are the marked corners, each with its mark and its record. -/
theorem mem_candidates {k : Candidate} :
    k ∈ candidates ts ws cs
      ↔ k.corner ∈ cs ∧ cornerMark ts ws k.corner = some k.index ∧ k.record = ws[cornerNumber k.corner] := by
  simp only [candidates, List.mem_filterMap, Option.map_eq_some_iff]
  constructor
  · rintro ⟨c, hc, i, hi, rfl⟩
    exact ⟨hc, hi, rfl⟩
  · rintro ⟨hc, hi, hr⟩
    exact ⟨k.corner, hc, k.index, hi, by rw [← hr]⟩

theorem candidate_of_mark {c : Corner} {i : Nat} (hc : c ∈ cs) (hi : cornerMark ts ws c = some i) :
    ⟨c, i, ws[cornerNumber c]⟩ ∈ candidates ts ws cs := mem_candidates.mpr ⟨hc, hi, rfl⟩

theorem areaOf_candidate {k : Candidate} (hk : k ∈ candidates ts ws cs) : areaOf ts k = cornerArea ts ws k.corner := by
  obtain ⟨-, hi, hr⟩ := mem_candidates.mp hk
  simp [areaOf, cornerArea, hi, hr]

theorem candidates_eq_nil_iff : candidates ts ws cs = [] ↔ ∀ c ∈ cs, cornerMark ts ws c = none := by
  simp [candidates, cornerMark]

theorem candidates_ne_nil_iff : candidates ts ws cs ≠ [] ↔ ∃ c ∈ cs, (cornerMark ts ws c).isSome = true := by
  simp [candidates_eq_nil_iff, Option.isSome_iff_ne_none]

/-- Corners are listed once, so that two candidates are two marked corners. -/
theorem two_le_candidates_iff (nodup : cs.Nodup) :
    2 ≤ (candidates ts ws cs).length
      ↔ ∃ c ∈ cs, ∃ d ∈ cs, c ≠ d ∧ (cornerMark ts ws c).isSome = true ∧ (cornerMark ts ws d).isSome = true := by
  have length_eq : (candidates ts ws cs).length = (cs.filter fun c => (cornerMark ts ws c).isSome).toFinset.card := by
    rw [List.toFinset_card_of_nodup (nodup.filter _), ← List.countP_eq_length_filter]
    simp [candidates, List.length_filterMap_eq_countP, cornerMark]
  rw [length_eq, Nat.succ_le_iff, Finset.one_lt_card_iff]
  simp only [List.mem_toFinset, List.mem_filter]
  constructor
  · rintro ⟨c, d, ⟨hc, mc⟩, ⟨hd, md⟩, ne⟩
    exact ⟨c, hc, d, hd, ne, mc, md⟩
  · rintro ⟨c, hc, d, hd, ne, mc, md⟩
    exact ⟨c, d, ⟨hc, mc⟩, ⟨hd, md⟩, ne⟩

end

/-! ## The winner of some candidates (R69) -/

theorem lowestIndex_le {ks : List Candidate} {k : Candidate} (hk : k ∈ ks) : lowestIndex ks ≤ k.index := by
  induction ks using lowestIndex.induct with
  | case1 => cases hk
  | case2 a => simp_all [lowestIndex]
  | case3 a as ne ih =>
    rw [lowestIndex.eq_3 _ _ ne]
    obtain rfl | hk := List.mem_cons.mp hk
    · exact min_le_left _ _
    · exact (min_le_right _ _).trans (ih hk)

theorem exists_lowestIndex {ks : List Candidate} (ne : ks ≠ []) : ∃ k ∈ ks, k.index = lowestIndex ks := by
  induction ks using lowestIndex.induct with
  | case1 => exact absurd rfl ne
  | case2 a => exact ⟨a, List.mem_singleton_self a, rfl⟩
  | case3 a as nonempty ih =>
    rw [lowestIndex.eq_3 _ _ nonempty]
    obtain h | h := min_choice a.index (lowestIndex as)
    · exact ⟨a, List.mem_cons_self, h.symm⟩
    · obtain ⟨k, hk, hi⟩ := ih nonempty
      exact ⟨k, List.mem_cons_of_mem a hk, hi.trans h.symm⟩

theorem mem_remaining {ks : List Candidate} {k : Candidate} : k ∈ remaining ks ↔ k ∈ ks ∧ k.index = lowestIndex ks := by
  simp [remaining]

section
variable {ts : Tables} {ks : List Candidate}

/-- The winner remains, and its area is above that of every other corner that remains. -/
theorem winner_spec {k : Candidate} (h : winner ts ks = some k) :
    k ∈ remaining ks ∧ ∀ d ∈ remaining ks, d.corner ≠ k.corner → areaOf ts d < areaOf ts k := by
  unfold winner at h
  have beats := List.find?_some h
  refine ⟨List.mem_of_find?_eq_some h, fun d hd ne => ?_⟩
  simpa [ne] using List.all_eq_true.mp beats d hd

/-- Without a winner two corners that remain share the greatest area. -/
theorem tie_of_no_winner (ne : ks ≠ []) (h : winner ts ks = none) :
    ∃ a ∈ remaining ks, ∃ b ∈ remaining ks, a.corner ≠ b.corner ∧ areaOf ts a = areaOf ts b
      ∧ ∀ e ∈ remaining ks, areaOf ts e ≤ areaOf ts a := by
  obtain ⟨m, hm, lowest⟩ := exists_lowestIndex ne
  have nonempty : (remaining ks).toFinset.Nonempty := ⟨m, List.mem_toFinset.mpr (mem_remaining.mpr ⟨hm, lowest⟩)⟩
  obtain ⟨a, ha, greatest⟩ := Finset.exists_max_image _ (areaOf ts) nonempty
  simp only [List.mem_toFinset] at ha greatest
  have unbeaten := List.find?_eq_none.mp h a ha
  obtain ⟨b, hb, other, reaches⟩ : ∃ b ∈ remaining ks, b.corner ≠ a.corner ∧ areaOf ts a ≤ areaOf ts b := by
    simpa using unbeaten
  exact ⟨a, ha, b, hb, other.symm, le_antisymm reaches (greatest b hb), greatest⟩

end

/-! ## The verdict of a stage (R69, R70) -/

section
variable {ts : Tables} {ws : Vector WindowRecord 8} {cs : List Corner} {kind : VerdictKind} {v : Verdict}
  (hv : v = stageVerdict ts kind (candidates ts ws cs))
include hv

/-- A verdict with a corner is that of the winner. -/
theorem stageVerdict_with_corner {c : Corner} (hc : v.corner = some c) :
    c ∈ cs ∧ v.kind = kind ∧ v.signature = cornerMark ts ws c
      ∧ (∃ i, cornerMark ts ws c = some i ∧ v.markKind = (entryInForce ts i).kind
        ∧ (∀ d ∈ cs, ∀ j, cornerMark ts ws d = some j → i ≤ j)
        ∧ ∀ d ∈ cs, d ≠ c → cornerMark ts ws d = some i → cornerArea ts ws d < cornerArea ts ws c)
      ∧ v.span = ws[cornerNumber c].sum.span := by
  cases h : winner ts (candidates ts ws cs) with
  | none => simp [hv, stageVerdict, h] at hc
  | some k =>
    have isWinner : v = ⟨kind, some k.corner, (entryInForce ts k.index).kind, some k.index, k.record.sum.span⟩ := by
      simp [hv, stageVerdict, h]
    obtain rfl : k.corner = c := by simpa [isWinner] using hc
    obtain ⟨remains, beats⟩ := winner_spec h
    obtain ⟨hk, lowest⟩ := mem_remaining.mp remains
    obtain ⟨hcs, hi, hr⟩ := mem_candidates.mp hk
    refine ⟨hcs, by rw [isWinner], by rw [isWinner, hi], ⟨k.index, hi, by rw [isWinner], fun d hd j hj => ?_,
      fun d hd ne hj => ?_⟩, by rw [isWinner, hr]⟩
    · exact lowest ▸ lowestIndex_le (candidate_of_mark hd hj)
    · have hm := candidate_of_mark hd hj
      have smaller := beats _ (mem_remaining.mpr ⟨hm, lowest⟩) ne
      rwa [areaOf_candidate hm, areaOf_candidate hk] at smaller

/-- A verdict without a corner, in a stage with candidates, is AMBIGUOUS: two corners share the greatest area. -/
theorem stageVerdict_without_corner (ne : candidates ts ws cs ≠ []) (hc : v.corner = none) :
    v.kind = .ambiguous ∧ v.span = none
      ∧ ∃ i, v.signature = some i ∧ v.markKind = (entryInForce ts i).kind
        ∧ (∀ d ∈ cs, ∀ j, cornerMark ts ws d = some j → i ≤ j)
        ∧ ∃ c ∈ cs, ∃ d ∈ cs, c ≠ d ∧ cornerMark ts ws c = some i ∧ cornerMark ts ws d = some i
          ∧ cornerArea ts ws c = cornerArea ts ws d
          ∧ ∀ e ∈ cs, cornerMark ts ws e = some i → cornerArea ts ws e ≤ cornerArea ts ws c := by
  cases h : winner ts (candidates ts ws cs) with
  | some k => simp [hv, stageVerdict, h] at hc
  | none =>
    generalize hl : lowestIndex (candidates ts ws cs) = i
    have isTie : v = ⟨.ambiguous, none, (entryInForce ts i).kind, some i, none⟩ := by
      simp [hv, stageVerdict, h, hl]
    obtain ⟨a, ha, b, hb, other, equal, greatest⟩ := tie_of_no_winner ne h
    simp only [mem_remaining, hl] at ha hb greatest
    obtain ⟨ha, rfl⟩ := ha
    obtain ⟨hb, sameIndex⟩ := hb
    obtain ⟨hac, hai, -⟩ := mem_candidates.mp ha
    obtain ⟨hbc, hbi, -⟩ := mem_candidates.mp hb
    rw [areaOf_candidate ha, areaOf_candidate hb] at equal
    rw [sameIndex] at hbi
    refine ⟨by rw [isTie], by rw [isTie], a.index, by rw [isTie], by rw [isTie], fun d hd j hj => ?_,
      a.corner, hac, b.corner, hbc, other, hai, hbi, equal, fun e he hi => ?_⟩
    · exact hl ▸ lowestIndex_le (candidate_of_mark hd hj)
    · have hm := candidate_of_mark he hi
      have below := greatest _ ⟨hm, rfl⟩
      rwa [areaOf_candidate hm, areaOf_candidate ha] at below

end

/-! ## The deciding stage (R68) -/

section
variable {ts : Tables} {ws : Vector WindowRecord 8}

/-- The corners of the deciding stage: the facing ones where one of them is marked, else the odd ones. -/
def decidingStage (ts : Tables) (ws : Vector WindowRecord 8) : List Corner :=
  if ∃ c ∈ facingCorners, (cornerMark ts ws c).isSome = true then facingCorners else oddCorners

theorem decidingStage_nodup : (decidingStage ts ws).Nodup := by
  unfold decidingStage
  split <;> decide

theorem verdictOf_unmarked (h : candidates ts ws (decidingStage ts ws) = []) :
    verdictOf ts ws = (⟨.none, none, 0, none, none⟩, false) := by
  by_cases marked : ∃ c ∈ facingCorners, (cornerMark ts ws c).isSome = true
  · rw [decidingStage, if_pos marked] at h
    exact absurd h (candidates_ne_nil_iff.mpr marked)
  · rw [decidingStage, if_neg marked] at h
    have noFacing := not_not.mp (mt candidates_ne_nil_iff.mp marked)
    simp [verdictOf, noFacing, h]

theorem verdictOf_marked (h : candidates ts ws (decidingStage ts ws) ≠ []) :
    verdictOf ts ws
      = (stageVerdict ts (if decidingStage ts ws = facingCorners then .faced else .odd)
          (candidates ts ws (decidingStage ts ws)),
        decide (2 ≤ (candidates ts ws (decidingStage ts ws)).length)) := by
  by_cases marked : ∃ c ∈ facingCorners, (cornerMark ts ws c).isSome = true
  · rw [decidingStage, if_pos marked] at h ⊢
    simp [verdictOf, h]
  · have isOdd : oddCorners ≠ facingCorners := by decide
    rw [decidingStage, if_neg marked] at h ⊢
    have noFacing := not_not.mp (mt candidates_ne_nil_iff.mp marked)
    simp [verdictOf, noFacing, h, isOdd]

/-- MULTI is asked for by two or more candidates of the deciding stage (R71). -/
theorem verdictOf_multi_iff :
    (verdictOf ts ws).2 = true ↔ ∃ c ∈ decidingStage ts ws, ∃ d ∈ decidingStage ts ws,
      c ≠ d ∧ (cornerMark ts ws c).isSome = true ∧ (cornerMark ts ws d).isSome = true := by
  rw [← two_le_candidates_iff decidingStage_nodup]
  by_cases h : candidates ts ws (decidingStage ts ws) = []
  · simp [verdictOf_unmarked h, h]
  · simp [verdictOf_marked h]

end

/-- Settles O47. The mark is the first match of a search in index order; the verdict is that of the deciding stage, whose winner
or tie the lemmas on its candidates give. -/
theorem verdictChosen : Obligations.VerdictChosen := by
  refine ⟨rfl, rfl, fun _ => ⟨rfl, rfl, rfl⟩, fun _ _ => rfl,
    fun ts w i => ⟨markOf_eq_some_iff ts w i, markOf_eq_none_iff ts w, ?matching⟩, ?verdict⟩
  case matching =>
    have matching := matchesEntry_iff w (entryInForce ts i)
    rw [bandOf_eq] at matching
    rw [forall_eq]
    exact matching
  case verdict =>
    intro ts ws v multi hv mark hmark stage hstage area harea
    obtain rfl : mark = cornerMark ts ws := funext hmark
    obtain rfl : area = cornerArea ts ws := funext harea
    obtain rfl : stage = decidingStage ts ws := hstage
    have multi_iff := verdictOf_multi_iff (ts := ts) (ws := ws)
    rw [hv] at multi_iff
    have chosen (ne : candidates ts ws (decidingStage ts ws) ≠ []) : v = stageVerdict ts _ _ :=
      (Prod.mk.inj (hv.symm.trans (verdictOf_marked ne))).1
    refine ⟨fun unmarked => ?_, fun c hc => ?_, fun marked hc => ?_, multi_iff⟩
    · exact Prod.mk.inj (hv.symm.trans (verdictOf_unmarked (candidates_eq_nil_iff.mpr unmarked)))
    · have ne : candidates ts ws (decidingStage ts ws) ≠ [] := fun empty => by
        rw [verdictOf_unmarked empty] at hv
        cases hv
        cases hc
      exact stageVerdict_with_corner (chosen ne) hc
    · have ne := candidates_ne_nil_iff.mpr marked
      obtain ⟨ambiguous, noSpan, i, hs, hk, lowest, c, hcs, d, hds, other, hci, hdi, equal, greatest⟩ :=
        stageVerdict_without_corner (chosen ne) ne hc
      have asked : multi = true := multi_iff.mpr ⟨c, hcs, d, hds, other, by simp [hci], by simp [hdi]⟩
      exact ⟨ambiguous, noSpan, asked, i, hs, hk, lowest, c, hcs, d, hds, other, hci, hdi, equal, greatest⟩

end Sys2Proof.Machine
end

section
/-! SUPPORT. The release of the evaluation unit and the completion of an evaluation (R60 to R62). -/

namespace Sys2Proof.Machine

/-! ## The release of the unit (R60, R62) -/

section
variable {s : State}

theorem releaseSubject_of_empty (h : s.eval.queue = []) : releaseSubject s = { s with eval := ⟨false, none, []⟩ } := by
  simp only [releaseSubject, startEvaluation, State.withEval_eval, h]
  rfl

theorem releaseSubject_of_queued {q : Seq} {rest : List Seq} (h : s.eval.queue = q :: rest) :
    releaseSubject s = { s with
      eval := ⟨true, some q, rest⟩
      track := { s.track with
        letters := s.track.letters.map fun l => if l.seq = q then { l with state := .evaluating } else l } } := by
  simp only [releaseSubject, startEvaluation, State.withEval_eval, h]
  rfl

/-! ## Letter records -/

/-- A letter found by its number after a change that keeps the number. -/
theorem findLetter_modifyLetter {q : Seq} {f : Letter → Letter} (keeps : ∀ l, (f l).seq = l.seq) :
    findLetter (modifyLetter q f s) q = (findLetter s q).map f := by
  have sameTest : ∀ l : Letter, decide ((if l.seq = q then f l else l).seq = q) = decide (l.seq = q) := fun l => by
    by_cases e : l.seq = q <;> simp [e, keeps]
  simp only [findLetter, modifyLetter_letters, List.find?_map, Function.comp_def, sameTest]
  cases h : s.track.letters.find? fun l => l.seq = q with
  | none => rfl
  | some l =>
    have found : l.seq = q := by simpa using List.find?_some h
    simp [found]

theorem findLetter_recordVerdict {q : Seq} {l : Letter} (found : findLetter s q = some l) (v : Verdict) (multi : Bool) :
    findLetter (recordVerdict q v multi s) q
      = some { l with verdict := some v, flags := { l.flags with multi := l.flags.multi || multi } } := by
  calc findLetter (recordVerdict q v multi s) q
      = (findLetter s q).map _ := findLetter_modifyLetter fun _ => rfl
    _ = _ := congrArg (Option.map _) found

/-- A count leaves the letters (R150). -/
@[simp] theorem findLetter_count (i : Fin 64) (q : Seq) : findLetter (count i s) q = findLetter s q := by
  rw [findLetter, count_frame s i .track (by decide), findLetter]

/-! ## The completion (R61, R62) -/

theorem completeEvaluation_without_subject (busy : s.eval.busy = true) (absent : s.eval.subject = none) :
    completeEvaluation s = releaseSubject s := by
  simp [completeEvaluation, busy, absent]

theorem completeEvaluation_with_subject {q : Seq} {l : Letter} (busy : s.eval.busy = true) (subject : s.eval.subject = some q)
    (found : findLetter s q = some l) : completeEvaluation s = completeSubject l s := by
  simp [completeEvaluation, busy, subject, found]

section
variable {l : Letter} {ws : Vector WindowRecord 8} {v : Verdict} {multi : Bool} (windows : l.windows = some ws)
  (chosen : verdictOf s.store.tables ws = (v, multi))
include windows chosen

/-- A letter declared late meanwhile keeps its disposition (R61, R73). -/
theorem completeSubject_routed (routed : l.state = .routed) :
    completeSubject l s = releaseSubject (count (tallyOfKind v.markKind) (recordVerdict l.seq v multi s)) := by
  simp [completeSubject, windows, chosen, routed]

/-- A letter still EVALUATING goes to the routing decision with its record as the completion left it (R61). -/
theorem completeSubject_evaluating {l' : Letter} (evaluating : l.state = .evaluating)
    (found : findLetter (count (tallyOfKind v.markKind) (recordVerdict l.seq v multi s)) l.seq = some l') :
    completeSubject l s
      = releaseSubject (routingDecision l' v (count (tallyOfKind v.markKind) (recordVerdict l.seq v multi s))) := by
  simp [completeSubject, windows, chosen, evaluating, found]

end

end

/-- Settles O48. The completion is the release of the unit, after the record and the count when there is a subject, and after the
routing decision when the subject is still EVALUATING. -/
theorem evaluationCompletes : Obligations.EvaluationCompletes := by
  refine ⟨fun u => ⟨releaseSubject_of_empty, fun q rest => releaseSubject_of_queued⟩,
    fun s busy => ⟨fun absent empty => ?absentIdle, fun q rest absent queued => ?absentNext, ?present⟩⟩
  case absentIdle =>
    exact congrArg Host.Outcome.next
      ((completeEvaluation_without_subject busy absent).trans (releaseSubject_of_empty empty))
  case absentNext =>
    exact congrArg Host.Outcome.next
      ((completeEvaluation_without_subject busy absent).trans (releaseSubject_of_queued queued))
  case present =>
    rintro q l ws v multi subject found windows chosen u hu
    obtain ⟨-, rfl⟩ := findLetter_spec s found
    obtain rfl : u = count (tallyOfKind v.markKind) (recordVerdict l.seq v multi s) := hu
    have completes : exec .evaluationCompletion s = .next (completeSubject l s) :=
      congrArg Host.Outcome.next (completeEvaluation_with_subject busy subject found)
    refine ⟨fun routed => ?_, fun evaluating => ?_⟩
    · rw [completes, completeSubject_routed windows chosen routed]
    · have recorded := findLetter_recordVerdict found v multi
      rw [← findLetter_count (tallyOfKind v.markKind)] at recorded
      exact ⟨_, recorded, rfl, rfl, by rw [completes, completeSubject_evaluating windows chosen evaluating recorded]⟩

end Sys2Proof.Machine
end

section
/-! SUPPORT. An ask that is served in the event of its arrival: from the ring input to its answer of one part (R176, R177, R182). -/

namespace Sys2Proof.Machine

section
variable {s : State}

theorem setReserved_self {n : Nat} (h : s.ring.reserved = n) : setReserved n s = s := by
  subst h
  rfl

theorem setReserved_setReserved (m n : Nat) : setReserved m (setReserved n s) = setReserved m s := rfl

theorem popIntake_withRing_single (empty : s.ring.intake = []) (a : IntakeAsk) :
    popIntake (s.withRing { s.ring with intake := [a] }) = s := by
  calc popIntake (s.withRing { s.ring with intake := [a] })
      = s.withRing { s.ring with intake := [] } := rfl
    _ = s := by rw [← empty]; rfl

theorem serveIntake_single {a : IntakeAsk} (single : s.ring.intake = [a])
    (room : partsNeeded a (popIntake s) ≤ freeAnswerPlaces s) : serveIntake s = serveAsk a (popIntake s) := by
  simp [serveIntake, serveAsks, single, room]

/-- An ask that finds the intake empty and has room for its answer does not stay in the intake (R182). -/
theorem takeAsk_served {src : Station} {code : Byte} {args : List Byte} (empty : s.ring.intake = [])
    (room : partsNeeded ⟨src, code, args⟩ s ≤ freeAnswerPlaces s) :
    takeAsk src code args s = serveAsk ⟨src, code, args⟩ s := by
  have popped := popIntake_withRing_single empty ⟨src, code, args⟩
  calc takeAsk src code args s
      = serveIntake (s.withRing { s.ring with intake := [⟨src, code, args⟩] }) := by simp [takeAsk, empty, intakeCapacity]
    _ = serveAsk ⟨src, code, args⟩ (popIntake _) := serveIntake_single rfl (by rw [popped]; exact room)
    _ = serveAsk ⟨src, code, args⟩ s := by rw [popped]

/-- An answer of at most 53 data bytes joins the answer queue as one part (R182). -/
theorem joinWhole_onePart {dest : Station} {code : Byte} {r : Served} (short : r.data.length ≤ partSize) :
    joinWhole dest code r = joinAnswer (.answer dest code r.status 0 true r.data) r.state := by
  rw [joinWhole, answerParts, if_pos short]
  rfl

section
variable {dest src code : Byte} {args : List Byte} {t : State} {status : Status} {data : List Byte}

/-- An ask served at once whose answer has one part: whatever places are kept for the answer while it is formed (the argument n
of `serves`), they are free again when it joins. -/
theorem deliver_ask_onePart (atOnce : servedAtOnce dest src 1 s) (fits : (messagePayload (.ask code args)).length ≤ maxPayload)
    (notReset : isLaneReset ⟨station src, code, args⟩ = false)
    (serves : ∀ n, serve code args (setReserved n s) = ⟨setReserved n t, status, data⟩) (unreserved : t.ring.reserved = 0)
    (short : data.length ≤ partSize) :
    deliver dest src (.ask code args) s = joinAnswer (oneAnswer src code status data) t := by
  obtain ⟨addressed, empty, noneKept, room⟩ := atOnce
  have servesNow : serve code args s = ⟨t, status, data⟩ := by
    simpa [setReserved_self noneKept, setReserved_self unreserved] using serves 0
  have oneNeeded : partsNeeded ⟨station src, code, args⟩ s = 1 := by
    simp [partsNeeded, notReset, servesNow, answerParts, short]
  have hasRoom : partsNeeded ⟨station src, code, args⟩ s ≤ freeAnswerPlaces s := by
    simp only [oneNeeded, freeAnswerPlaces]
    omega
  calc deliver dest src (.ask code args) s
      = takeAsk (station src) code args s := deliver_taken addressed fits
    _ = serveAsk ⟨station src, code, args⟩ s := takeAsk_served empty hasRoom
    _ = joinWhole (station src) code ⟨setReserved 0 (setReserved 1 t), status, data⟩ := by
      simp [serveAsk, notReset, oneNeeded, serves]
    _ = joinAnswer (oneAnswer src code status data) (setReserved 0 (setReserved 1 t)) := joinWhole_onePart short
    _ = joinAnswer (oneAnswer src code status data) t := by
      rw [setReserved_setReserved, setReserved_self unreserved]

end

end

end Sys2Proof.Machine
end

section
/-! SUPPORT. The postmark clock: the calendar, a second's carries, and the two asks of the clock (R117 to R119, R121, R123, R124). -/

namespace Sys2Proof.Machine

/-! ## The calendar (R118, R124) -/

theorem monthLength_eq_getD (year : Nat) {month : Nat} (first : 1 ≤ month) (last : month ≤ 12) :
    monthLength year month
      = [31, if year % 4 = 0 then 29 else 28, 31, 30, 31, 30, 31, 31, 30, 31, 30, 31].getD (month - 1) 0 := by
  interval_cases month <;> simp [monthLength, leapYear]

theorem nextDay_eq (d : Date) :
    nextDay d = if d.day < monthLength d.year d.month then { d with day := d.day + 1 }
      else if d.month < 12 then ⟨d.year, d.month + 1, 1⟩
      else ⟨if d.year < 99 then d.year + 1 else 0, 1, 1⟩ := by
  simp only [nextDay, Nat.succ_le_iff]
  congr 2
  split <;> rfl

section
variable {d : Date}

theorem nextDay_within_month (before : d.day < monthLength d.year d.month) : nextDay d = { d with day := d.day + 1 } := by
  rw [nextDay_eq, if_pos before]

theorem nextDay_within_year (isLast : d.day = monthLength d.year d.month) (before : d.month < 12) :
    nextDay d = ⟨d.year, d.month + 1, 1⟩ := by
  rw [nextDay_eq, if_neg isLast.not_lt, if_pos before]

theorem nextDay_at_year_end (isLast : d.day = monthLength d.year d.month) (december : d.month = 12)
    (inCentury : d.year ≤ 99) : nextDay d = ⟨if d.year = 99 then 0 else d.year + 1, 1, 1⟩ := by
  rw [nextDay_eq, if_neg isLast.not_lt, if_neg december.not_lt]
  obtain century | earlier := inCentury.eq_or_lt
  · simp [century]
  · simp [earlier, earlier.ne]

end

/-! ## One second (R117, R119) -/

section
variable {c : Clock}

theorem advanceSecond_within_minute (hs : c.second ≠ 59) : advanceSecond c = { c with second := c.second + 1 } := by
  simp [advanceSecond, hs]

theorem advanceSecond_within_hour (hs : c.second = 59) (hm : c.minute ≠ 59) :
    advanceSecond c = { c with second := 0, minute := c.minute + 1 } := by
  simp [advanceSecond, carryMinute, hs, hm]

theorem advanceSecond_within_day (hs : c.second = 59) (hm : c.minute = 59) (hh : c.hour ≠ 23) :
    advanceSecond c = { c with second := 0, minute := 0, hour := c.hour + 1 } := by
  simp [advanceSecond, carryMinute, carryHour, hs, hm, hh]

theorem advanceSecond_at_midnight {d : Date} (hs : c.second = 59) (hm : c.minute = 59) (hh : c.hour = 23)
    (tomorrow : nextDay (dateOf c) = d) :
    advanceSecond c = ⟨d.year, d.month, d.day, 0, 0, 0, nextDayOfWeek c.dayOfWeek, c.valid, c.phase⟩ := by
  subst tomorrow
  simp [advanceSecond, carryMinute, carryHour, carryDay, dateOf, hs, hm, hh]

end

/-- Settles O23. The split follows the carries: the second stays in its minute, the minute in its hour, the hour in its day, or the
day ends, and then the date is the next one of the calendar. -/
theorem secondEventCarries : Obligations.SecondEventCarries := by
  intro s inv
  obtain ⟨inCentury, firstMonth, inYear, -, inMonth, -⟩ := inv
  dsimp only
  rw [← monthLength_eq_getD s.clock.year firstMonth inYear]
  refine ⟨secondEventAt s, rfl, secondEventAt_frame s, ?_⟩
  simp only [secondEventAt, State.withClock_clock]
  by_cases hs : s.clock.second = 59
  case neg => simp [advanceSecond_within_minute hs, hs]
  by_cases hm : s.clock.minute = 59
  case neg => simp [advanceSecond_within_hour hs hm, hs, hm]
  by_cases hh : s.clock.hour = 23
  case neg => simp [advanceSecond_within_day hs hm hh, hs, hm, hh]
  obtain isLast | before := inMonth.eq_or_lt
  case inr =>
    simp [advanceSecond_at_midnight hs hm hh (nextDay_within_month before), dateOf, nextDayOfWeek, hs, hm, hh, before.ne]
  obtain december | before := inYear.eq_or_lt
  case inr =>
    simp [advanceSecond_at_midnight hs hm hh (nextDay_within_year isLast before), dateOf, nextDayOfWeek, hs, hm, hh, isLast,
      before.ne]
  case inl =>
    simp [advanceSecond_at_midnight hs hm hh (nextDay_at_year_end isLast december inCentury), dateOf, nextDayOfWeek, hs, hm, hh,
      isLast, december]

/-! ## CLOCK SET and CLOCK READ (R121, R123) -/

@[simp] theorem byteOf_toNat (b : Byte) : byteOf b.toNat = b := by simp [byteOf]

/-- The tests of a CLOCK SET in the order of its fields, true where a field fails (R121). -/
def clockSetTests (year month day hour minute second dayOfWeek : Nat) : List Bool :=
  [decide (99 < year), decide (month = 0 ∨ 12 < month), decide (day = 0 ∨ monthLength year month < day), decide (23 < hour),
    decide (59 < minute), decide (59 < second), decide (dayOfWeek = 0 ∨ 7 < dayOfWeek)]

/-- The number of the first true entry of a list numbered from n, or 0. -/
def numberOfFirst (n : Nat) (tests : List Bool) : Nat := if true ∈ tests then tests.idxOf true + n else 0

theorem numberOfFirst_nil (n : Nat) : numberOfFirst n [] = 0 := rfl

theorem numberOfFirst_cons (n : Nat) (p : Prop) [Decidable p] (tests : List Bool) :
    numberOfFirst n (decide p :: tests) = if p then n else numberOfFirst (n + 1) tests := by
  by_cases fails : p
  · simp [numberOfFirst, fails]
  · simp [numberOfFirst, fails, Nat.add_assoc, Nat.add_comm 1]

/-- A CLOCK SET names the first test that fails. -/
theorem clockSetFailure_eq (year month day hour minute second dayOfWeek : Nat) :
    clockSetFailure year month day hour minute second dayOfWeek
      = numberOfFirst 1 (clockSetTests year month day hour minute second dayOfWeek) := by
  simp only [clockSetFailure, clockSetTests, numberOfFirst_cons, numberOfFirst_nil]

section
variable {y m d h mi se w : Byte} (s : State)

theorem serveClockSet_of_pass
    (pass : true ∉ clockSetTests y.toNat m.toNat d.toNat h.toNat mi.toNat se.toNat w.toNat) :
    serveClockSet y m d h mi se w s
      = ⟨s.withClock ⟨y.toNat, m.toNat, d.toNat, h.toNat, mi.toNat, se.toNat, w.toNat, true, 0⟩, .ok,
          [0, y, m, d, h, mi, se, w, 1]⟩ := by
  simp [serveClockSet, clockSetFailure_eq, numberOfFirst, pass, clockFields, indicator]

theorem serveClockSet_of_fail
    (fail : true ∈ clockSetTests y.toNat m.toNat d.toNat h.toNat mi.toNat se.toNat w.toNat) :
    serveClockSet y m d h mi se w s
      = ⟨s, .range,
          byteOf ((clockSetTests y.toNat m.toNat d.toNat h.toNat mi.toNat se.toNat w.toNat).idxOf true + 1)
            :: clockFields s.clock ++ [indicator s.clock.valid]⟩ := by
  simp [serveClockSet, clockSetFailure_eq, numberOfFirst, fail]

end

section
variable {dest src : Byte} {s : State} (atOnce : servedAtOnce dest src 1 s)
include atOnce

theorem exec_clockSet_served {y m d h mi se w : Byte} {t : State} {status : Status} {data : List Byte}
    (serves : ∀ n, serveClockSet y m d h mi se w (setReserved n s) = ⟨setReserved n t, status, data⟩)
    (unreserved : t.ring.reserved = 0) (short : data.length ≤ partSize) :
    exec (.clockSet dest src y m d h mi se w) s = .next (joinAnswer (oneAnswer src 0x0E status data) t) :=
  congrArg Host.Outcome.next
    (deliver_ask_onePart atOnce (by simp [messagePayload, maxPayload]) (by simp [isLaneReset]) serves unreserved short)

theorem exec_clockRead_served :
    exec (.clockRead dest src) s
      = .next (joinAnswer (oneAnswer src 0x0F .ok (serveClockRead s).data) s) :=
  have ⟨_, _, unreserved, _⟩ := atOnce
  congrArg Host.Outcome.next
    (deliver_ask_onePart atOnce (by simp [messagePayload, maxPayload]) (by simp [isLaneReset]) (fun _ => rfl) unreserved
      (by simp [serveClockRead, clockFields, partSize]))

end

/-- Settles O24. Both asks are served in the event of their arrival, and the field that a refused CLOCK SET names is the first of
the seven tests that fails. -/
theorem clockAsks : Obligations.ClockAsks := by
  intro dest src y m d h mi se w s atOnce
  have ⟨_, _, unreserved, _⟩ := atOnce
  refine ⟨fun pass => ?accepted, fun fail => ?refused, fun year month first last => monthLength_eq_getD year first last,
    nextDay_eq, rfl, ?read⟩
  case accepted =>
    exact exec_clockSet_served atOnce (fun n => serveClockSet_of_pass (setReserved n s) pass) unreserved (by simp [partSize])
  case refused =>
    exact exec_clockSet_served atOnce (fun n => serveClockSet_of_fail (setReserved n s) fail) unreserved
      (by simp [clockFields, partSize])
  case read =>
    rintro c p rfl rfl
    exact exec_clockRead_served atOnce

end Sys2Proof.Machine
end

section
/-! SUPPORT. An ask that is served in the event of its arrival, with an answer of any number of parts (R182). -/

namespace Sys2Proof.Machine

section
variable {dest src code : Byte} {args : List Byte} {s t : State} {status : Status} {data : List Byte}

/-- The form of `deliver_ask_onePart` for a whole answer. -/
theorem deliver_ask_whole (atOnce : servedAtOnce dest src (answerParts data).length s)
    (fits : (messagePayload (.ask code args)).length ≤ maxPayload) (notReset : isLaneReset ⟨station src, code, args⟩ = false)
    (serves : ∀ n, serve code args (setReserved n s) = ⟨setReserved n t, status, data⟩) (unreserved : t.ring.reserved = 0) :
    deliver dest src (.ask code args) s = joinWhole (station src) code ⟨t, status, data⟩ := by
  obtain ⟨addressed, empty, noneKept, room⟩ := atOnce
  have servesNow : serve code args s = ⟨t, status, data⟩ := by
    simpa [setReserved_self noneKept, setReserved_self unreserved] using serves 0
  have needed : partsNeeded ⟨station src, code, args⟩ s = (answerParts data).length := by
    simp [partsNeeded, notReset, servesNow]
  have hasRoom : partsNeeded ⟨station src, code, args⟩ s ≤ freeAnswerPlaces s := by
    simp only [needed, freeAnswerPlaces]
    omega
  calc deliver dest src (.ask code args) s
      = takeAsk (station src) code args s := deliver_taken addressed fits
    _ = serveAsk ⟨station src, code, args⟩ s := takeAsk_served empty hasRoom
    _ = joinWhole (station src) code
          ⟨setReserved 0 (setReserved (answerParts data).length t), status, data⟩ := by
      simp [serveAsk, notReset, needed, serves]
    _ = joinWhole (station src) code ⟨t, status, data⟩ := by
      rw [setReserved_setReserved, setReserved_self unreserved]

end

end Sys2Proof.Machine
end

section
/-! SUPPORT. The tally unit: a count and its wrap, the numbers of the counters, and the two asks of the unit (R146 to R151,
R153). -/

namespace Sys2Proof.Machine

/-! ## The numbers of the counters (R146 to R148) -/

theorem tallyOfKind_val {k : Nat} (kind : k < 16) : (tallyOfKind k).val = 13 + k :=
  Nat.mod_eq_of_lt (by omega)

theorem tallyOfRow_val {k : Nat} (last : k ≤ 63) : (tallyOfRow k).val = k :=
  Nat.mod_eq_of_lt (by omega)

/-! ## A count (R149, R150) -/

/-- Of 64 counters or marks, those that are not written stand. -/
theorem set_get_of_ne {α : Type} (v : Vector α 64) (x : α) {i j : Fin 64} (other : j ≠ i) :
    (v.set i.val x i.isLt)[j] = v[j] :=
  Vector.getElem_set_ne i.isLt j.isLt (Fin.val_ne_of_ne other.symm)

section
variable {i : Fin 64} {s : State}

theorem count_below (below : s.tally.live[i].toNat < 4294967295) :
    count i s = s.withTally { s.tally with live := s.tally.live.set i.val (s.tally.live[i] + 1) i.isLt } := by
  obtain ⟨-, counts⟩ | ⟨full, -⟩ := count_cases s i
  · exact counts
  · simp [full] at below

theorem count_wraps (full : s.tally.live[i].toNat = 4294967295) :
    count i s = setFlag .tallywrap (s.withTally { s.tally with
      live := s.tally.live.set i.val 0 i.isLt, liveMarks := s.tally.liveMarks.set i.val true i.isLt }) := by
  obtain ⟨below, -⟩ | ⟨-, wraps⟩ := count_cases s i
  · exact absurd (BitVec.eq_of_toNat_eq full) below
  · exact wraps

end

/-- Settles O25. The counter that is counted tells the two cases of a count apart. -/
theorem countsAndWraps : Obligations.CountsAndWraps := by
  refine ⟨rfl, fun _ => tallyOfKind_val, fun _ => rfl, fun _ _ => tallyOfRow_val,
    fun i s => ⟨fun below => ?adds, fun full => ?wraps⟩⟩
  case adds =>
    refine ⟨_, count_below below, ?_, fun _ => set_get_of_ne _ _⟩
    rw [Fin.getElem_fin, Vector.getElem_set_self]
    bv_omega
  case wraps =>
    exact ⟨_, _, count_wraps full, Vector.getElem_set_self _, Vector.getElem_set_self _,
      fun _ other => ⟨set_get_of_ne _ _ other, set_get_of_ne _ _ other⟩⟩

/-! ## TALLY FREEZE (R151) -/

section
variable (clear : Bool) (t : TallyUnit)

theorem freeze_live_get (i : Fin 64) : (freeze clear t).live[i] = if clear then 0 else t.live[i] := by
  cases clear
  · rfl
  · exact Vector.getElem_replicate i.isLt

theorem freeze_liveMarks_get (i : Fin 64) : (freeze clear t).liveMarks[i] = false :=
  Vector.getElem_replicate i.isLt

theorem freeze_number : (freeze clear t).number.toNat = (t.number.toNat + 1) % 65536 :=
  BitVec.toNat_add t.number 1

end

theorem freezeData_onePart (option : Byte) (t : TallyUnit) : (freezeData option t).length ≤ partSize := by
  simp [freezeData, partSize]

section
variable {option : Byte} (s : State)

theorem serveTallyFreeze_of_named (named : option = 0 ∨ option = 1) :
    serveTallyFreeze option s
      = ⟨s.withTally (freeze (decide (option = 1)) s.tally), .ok, freezeData option (freeze (decide (option = 1)) s.tally)⟩ :=
  if_pos named

theorem serveTallyFreeze_of_other (other : ¬(option = 0 ∨ option = 1)) :
    serveTallyFreeze option s = ⟨s, .range, freezeData option s.tally⟩ :=
  if_neg other

end

/-! ## TALLY READ (R153) -/

/-- The first counter that a TALLY READ asks for. -/
def tallyReadStart (start : Option Byte) (t : TallyUnit) : Nat := (start.map BitVec.toNat).getD t.cursor

/-- The tests that refuse a TALLY READ of k counters from index i. -/
def tallyReadRefused (k : Nat) (start : Option Byte) (i : Nat) : Prop :=
  k = 0 ∨ 12 < k ∨ (start.isSome = true ∧ 63 < i) ∨ 64 < i + k

section
variable {k : Byte} {start : Option Byte} (s : State)

theorem serve_tallyRead : serve 0x0D (tallyReadArgs k start) s = serveTallyRead k start s := by
  cases start <;> rfl

theorem tallyReadArgs_fits : (messagePayload (.ask 0x0D (tallyReadArgs k start))).length ≤ maxPayload := by
  cases start <;> simp [messagePayload, tallyReadArgs, maxPayload]

theorem serveTallyRead_of_refused (refused : tallyReadRefused k.toNat start (tallyReadStart start s.tally)) :
    serveTallyRead k start s = ⟨s, .range, tallyData s.tally⟩ := by
  cases start <;> exact if_pos refused

theorem serveTallyRead_of_granted {i : Nat} (first : i = tallyReadStart start s.tally)
    (granted : ¬ tallyReadRefused k.toNat start i) :
    serveTallyRead k start s
      = ⟨s.withTally { s.tally with cursor := i + k.toNat }, .ok,
          natBytes 2 s.tally.number.toNat ++ [byteOf (i + k.toNat), byteOf i, k]
            ++ (List.range k.toNat).flatMap fun j => counterData s.tally (i + j)⟩ := by
  have answers : serveTallyRead k start s
      = ⟨s.withTally { s.tally with cursor := i + k.toNat }, .ok,
          tallyData { s.tally with cursor := i + k.toNat } ++ [byteOf i, byteOf k.toNat]
            ++ (List.range k.toNat).flatMap fun j => counterData s.tally (i + j)⟩ := by
    subst first
    cases start <;> exact if_neg granted
  simpa [tallyData] using answers

end

/-! ## The two asks in the event of their arrival -/

section
variable {dest src : Byte} {s : State} {status : Status} {data : List Byte} (t : TallyUnit)

theorem exec_tallyFreeze_served {option : Byte} (atOnce : servedAtOnce dest src 1 s)
    (serves : ∀ n, serveTallyFreeze option (setReserved n s) = ⟨setReserved n (s.withTally t), status, data⟩)
    (short : data.length ≤ partSize) :
    exec (.tallyFreeze dest src option) s = .next (joinAnswer (oneAnswer src 0x0C status data) (s.withTally t)) :=
  have ⟨_, _, unreserved, _⟩ := atOnce
  congrArg Host.Outcome.next
    (deliver_ask_onePart atOnce (by simp [messagePayload, maxPayload]) (by simp [isLaneReset]) serves unreserved short)

theorem exec_tallyRead_served {k : Byte} {start : Option Byte} (atOnce : servedAtOnce dest src (answerParts data).length s)
    (serves : ∀ n, serveTallyRead k start (setReserved n s) = ⟨setReserved n (s.withTally t), status, data⟩) :
    exec (.tallyRead dest src k start) s = .next (joinWhole (station src) 0x0D ⟨s.withTally t, status, data⟩) :=
  have ⟨_, _, unreserved, _⟩ := atOnce
  congrArg Host.Outcome.next
    (deliver_ask_whole atOnce tallyReadArgs_fits (by simp [isLaneReset])
      (fun n => (serve_tallyRead _).trans (serves n)) unreserved)

end

/-- Settles O26. A freeze is answered in one part. A read that is granted has up to 65 bytes, so its answer may have two; a
refused one has three bytes. -/
theorem tallyAsks : Obligations.TallyAsks := by
  refine ⟨fun dest src option s atOnce => ⟨fun named => ?freeze, fun notKeep notClear => ?freezeRange⟩,
    fun dest src k start s i first => ?_⟩
  case freeze =>
    refine ⟨freeze (decide (option = 1)) s.tally,
      exec_tallyFreeze_served _ atOnce
        (fun n => serveTallyFreeze_of_named (setReserved n s) named) (freezeData_onePart _ _),
      fun i => ⟨rfl, rfl, freeze_liveMarks_get _ _ i, ?_⟩, freeze_number _ _, rfl⟩
    simpa using freeze_live_get (decide (option = 1)) s.tally i
  case freezeRange =>
    exact exec_tallyFreeze_served s.tally atOnce
      (fun n => serveTallyFreeze_of_other (setReserved n s) (not_or.mpr ⟨notKeep, notClear⟩)) (freezeData_onePart _ _)
  replace first : i = tallyReadStart start s.tally := by
    cases start <;> exact first
  refine ⟨fun atLeast atMost startExists allExist data content atOnce => ?granted, fun refused atOnce => ?refused⟩
  case granted =>
    subst content
    have granted : ¬ tallyReadRefused k.toNat start i := by
      rintro (noCounter | tooMany | ⟨given, beyond⟩ | past)
      · omega
      · omega
      · exact beyond.not_ge (startExists given)
      · omega
    exact exec_tallyRead_served { s.tally with cursor := i + k.toNat } atOnce
      (fun n => serveTallyRead_of_granted (setReserved n s) first granted)
  case refused =>
    subst first
    have onePart : (tallyData s.tally).length ≤ partSize := by simp [tallyData, partSize]
    calc exec (.tallyRead dest src k start) s
        = .next (joinWhole (station src) 0x0D ⟨s, .range, tallyData s.tally⟩) :=
          exec_tallyRead_served s.tally (by rwa [answerParts, if_pos onePart])
            (fun n => serveTallyRead_of_refused (setReserved n s) refused)
      _ = .next (joinAnswer (oneAnswer src 0x0D .range (tallyData s.tally)) s) :=
          congrArg Host.Outcome.next (joinWhole_onePart onePart)

end Sys2Proof.Machine
end

section
/-! SUPPORT. TABLE READ: where a read starts, what it answers, and the ask in the event of its arrival (R169). -/

namespace Sys2Proof.Machine

/-! ## The service of a read -/

/-- A TABLE READ with the given position starts at row r of table t. -/
def tableReadStarts (position : Option (Byte × Byte)) (st : TableStore) (t : TableId) (r : Nat) : Prop :=
  position = none ∧ t = st.cursorTable ∧ r = st.cursorRow
    ∨ ∃ b x : Byte, position = some (b, x) ∧ tableOf b = some t ∧ r = x.toNat

/-- The tests that refuse a TABLE READ of k rows from row r of table t. -/
def tableReadRefused (k : Nat) (t : TableId) (r : Nat) : Prop := k = 0 ∨ 3 < k ∨ rowCount t < r + k

section
variable {k : Byte} {position : Option (Byte × Byte)} {t : TableId} {r : Nat} (s : State)

theorem serve_tableRead : serve 0x0A (tableReadArgs k position) s = serveTableRead k position s := by
  cases position <;> rfl

theorem tableReadArgs_fits : (messagePayload (.ask 0x0A (tableReadArgs k position))).length ≤ maxPayload := by
  cases position <;> simp [messagePayload, tableReadArgs, maxPayload]

theorem serveTableRead_of_noTable {b x : Byte} (given : position = some (b, x)) (unknown : tableOf b = none) :
    serveTableRead k position s = ⟨s, .range, cursorData s.store⟩ := by
  simp [serveTableRead, given, unknown]

theorem serveTableRead_of_starts (starts : tableReadStarts position s.store t r) :
    serveTableRead k position s = tableReadFrom k.toNat t r s := by
  obtain ⟨rfl, rfl, rfl⟩ | ⟨b, x, rfl, known, rfl⟩ := starts
  · rfl
  · simp [serveTableRead, known]

theorem serveTableRead_of_refused (starts : tableReadStarts position s.store t r) (refused : tableReadRefused k.toNat t r) :
    serveTableRead k position s = ⟨s, .range, cursorData s.store⟩ :=
  (serveTableRead_of_starts s starts).trans (if_pos refused)

theorem serveTableRead_of_granted (starts : tableReadStarts position s.store t r) (granted : ¬ tableReadRefused k.toNat t r) :
    serveTableRead k position s
      = ⟨s.withStore { s.store with cursorTable := t, cursorRow := r + k.toNat }, .ok,
          cursorData { s.store with cursorTable := t, cursorRow := r + k.toNat } ++ [tableCode t, byteOf r, byteOf k.toNat]
            ++ rowsData s.store.tables t r k.toNat⟩ :=
  (serveTableRead_of_starts s starts).trans (if_neg granted)

end

/-! ## The ask in the event of its arrival -/

section
variable {dest src k : Byte} {position : Option (Byte × Byte)} {s : State}

theorem exec_tableRead_served {st : TableStore} {status : Status} {data : List Byte}
    (atOnce : servedAtOnce dest src (answerParts data).length s)
    (serves : ∀ n, serveTableRead k position (setReserved n s) = ⟨setReserved n (s.withStore st), status, data⟩) :
    exec (.tableRead dest src k position) s = .next (joinWhole (station src) 0x0A ⟨s.withStore st, status, data⟩) :=
  have ⟨_, _, unreserved, _⟩ := atOnce
  congrArg Host.Outcome.next
    (deliver_ask_whole atOnce tableReadArgs_fits (by simp [isLaneReset])
      (fun n => (serve_tableRead _).trans (serves n)) unreserved)

theorem exec_tableRead_refused (atOnce : servedAtOnce dest src 1 s)
    (refuses : ∀ n, serveTableRead k position (setReserved n s) = ⟨setReserved n s, .range, cursorData s.store⟩) :
    exec (.tableRead dest src k position) s = .next (joinAnswer (oneAnswer src 0x0A .range (cursorData s.store)) s) :=
  have ⟨_, _, unreserved, _⟩ := atOnce
  congrArg Host.Outcome.next
    (deliver_ask_onePart atOnce tableReadArgs_fits (by simp [isLaneReset])
      (fun n => (serve_tableRead _).trans (refuses n)) unreserved (by simp [cursorData, partSize]))

end

/-- Settles O30. A refused read is answered in one part; one that is granted carries up to 55 bytes, so its answer may have
two. -/
theorem tableReadAnswersRows : Obligations.TableReadAnswersRows := by
  refine fun dest src k position s => ⟨fun b x given unknown atOnce => ?noTable,
    fun t r starts => ⟨fun refused atOnce => ?refused, fun atLeast atMost allExist st data hst content atOnce => ?granted⟩⟩
  case noTable =>
    exact exec_tableRead_refused atOnce fun n => serveTableRead_of_noTable (setReserved n s) given unknown
  case refused =>
    exact exec_tableRead_refused atOnce fun n => serveTableRead_of_refused (setReserved n s) starts refused
  case granted =>
    have granted : ¬ tableReadRefused k.toNat t r := by
      simp only [tableReadRefused]
      omega
    have layout : data = cursorData st ++ [tableCode t, byteOf r, byteOf k.toNat] ++ rowsData s.store.tables t r k.toNat := by
      rw [content, hst, byteOf_toNat]
      rfl
    subst hst
    rw [layout] at atOnce ⊢
    exact exec_tableRead_served atOnce fun n => serveTableRead_of_granted (setReserved n s) starts granted

end Sys2Proof.Machine
end

section
/-! SUPPORT. The asks of the ring port and of the condition unit: the bytes of their answers, the flags that a clear leaves, and
each ask in the event of its arrival (R183, R184, R187). -/

namespace Sys2Proof.Machine

/-! ## The bytes of a number (R171, R189) -/

/-- Bit j of byte i is bit 8i + j of the number. -/
theorem natBytes_getLsbD {n i j : Nat} (w : Nat) (inBytes : i < n) (inByte : j < 8) :
    ((natBytes n w).getD i 0).getLsbD j = w.testBit (8 * i + j) := by
  induction n generalizing i w with
  | zero => omega
  | succ n ih =>
    cases i with
    | zero =>
      calc (BitVec.ofNat 8 w).getLsbD j
          = (decide (j < 8) && w.testBit j) := BitVec.getLsbD_ofNat 8 w j
        _ = w.testBit (8 * 0 + j) := by simp [inByte]
    | succ i =>
      calc ((natBytes (n + 1) w).getD (i + 1) 0).getLsbD j
          = (w / 256).testBit (8 * i + j) := ih (w / 256) (Nat.lt_of_succ_lt_succ inBytes)
        _ = w.testBit (8 * i + j + 8) := Nat.testBit_div_two_pow (n := 8) w (8 * i + j)
        _ = w.testBit (8 * (i + 1) + j) := congrArg w.testBit (by omega)

/-- A 24-bit number is read back from its three bytes. -/
theorem le24_natBytes (w : BitVec 24) :
    le24 (BitVec.ofNat 8 w.toNat) (BitVec.ofNat 8 (w.toNat / 256)) (BitVec.ofNat 8 (w.toNat / 256 / 256)) = w := by
  apply BitVec.eq_of_toNat_eq
  simp only [le24, bytesNat, BitVec.toNat_ofNat]
  omega

/-- A 16-bit counter is sent as its low byte and its high byte. -/
theorem natBytes_counter (c : BitVec 16) : natBytes 2 c.toNat = [c.setWidth 8, (c >>> 8).setWidth 8] := by
  have low : BitVec.ofNat 8 c.toNat = c.setWidth 8 := BitVec.ofNat_toNat 8 c
  have high : BitVec.ofNat 8 (c.toNat / 256) = (c >>> 8).setWidth 8 := by
    apply BitVec.eq_of_toNat_eq
    simp [Nat.shiftRight_eq_div_pow]
  simp only [natBytes, low, high]

/-! ## An answer of two parts (R182) -/

section
variable {data : List Byte} (long : partSize < data.length) (atMostTwo : data.length ≤ 2 * partSize)
include long atMostTwo

theorem answerParts_twoParts : answerParts data = [data.take partSize, data.drop partSize] := by
  rw [answerParts, if_neg long.not_ge, if_pos atMostTwo]

theorem joinWhole_twoParts (dest : Station) (code : Byte) (status : Status) (t : State) :
    joinWhole dest code ⟨t, status, data⟩
      = joinAnswer (.answer dest code status 1 true (data.drop partSize))
          (joinAnswer (.answer dest code status 0 false (data.take partSize)) t) := by
  rw [joinWhole, answerParts_twoParts long atMostTwo]
  rfl

end

/-! ## IDENTIFY and ECHO (R183) -/

section
variable {dest src : Byte} {args : List Byte} {s : State}

theorem exec_identify_served (atOnce : servedAtOnce dest src 1 s) :
    exec (.identify dest src) s
      = .next (joinAnswer (oneAnswer src 0x01 .ok (natBytes 2 partCode ++ [revision, stationByte s.ring.own])) s) :=
  have ⟨_, _, unreserved, _⟩ := atOnce
  congrArg Host.Outcome.next
    (deliver_ask_onePart atOnce (by simp [messagePayload, maxPayload]) (by simp [isLaneReset]) (fun _ => rfl) unreserved
      (by simp [partSize]))

/-- An ECHO's answer may have more than one part, as its data are as long as its arguments. -/
theorem exec_echo_served (atOnce : servedAtOnce dest src (answerParts (args.map fun b => ~~~b)).length s)
    (fits : args.length ≤ 55) :
    exec (.echo dest src args) s = .next (joinWhole (station src) 0x02 ⟨s, .ok, args.map fun b => ~~~b⟩) :=
  have ⟨_, _, unreserved, _⟩ := atOnce
  congrArg Host.Outcome.next
    (deliver_ask_whole atOnce (by simpa [messagePayload, maxPayload, Nat.lt_succ_iff] using fits) (by simp [isLaneReset])
      (fun _ => rfl) unreserved)

end

/-- Settles O20. An ECHO's answer is as long as its arguments: up to 53 bytes are one part, 54 and 55 are two. -/
theorem identifyAndEcho : Obligations.IdentifyAndEcho := by
  refine fun dest src args s => ⟨fun atOnce => exec_identify_served atOnce, fun atOnce short => ?onePart,
    fun atOnce long fits => ?twoParts⟩
  case onePart =>
    have inOne : (args.map fun b => ~~~b).length ≤ partSize := by simpa [partSize] using short
    rw [exec_echo_served (by rwa [answerParts, if_pos inOne]) (by omega), joinWhole_onePart inOne]
    rfl
  case twoParts =>
    have overOne : partSize < (args.map fun b => ~~~b).length := by simpa [partSize] using long
    have atMostTwo : (args.map fun b => ~~~b).length ≤ 2 * partSize := by
      simp only [List.length_map, partSize]
      omega
    rw [exec_echo_served (by rwa [answerParts_twoParts overOne atMostTwo]) fits, joinWhole_twoParts overOne atMostTwo,
      List.map_take, List.map_drop]
    rfl

/-! ## LINK STATUS (R184) -/

theorem linkData_eq (c : LinkCounters) :
    linkData c
      = ([c.badCheck, c.unknownKind, c.forwardDrop, c.askDrop, c.noticeDrop, c.strayReport] : List (BitVec 16)).flatMap
          fun (c : BitVec 16) => [c.setWidth 8, (c >>> 8).setWidth 8] := by
  simp [linkData, natBytes_counter]

/-- Settles O21. The answer is formed from the counters before they are set to 0. -/
theorem linkStatusReadsAndClears : Obligations.LinkStatusReadsAndClears := by
  intro dest src s atOnce
  have ⟨_, _, unreserved, _⟩ := atOnce
  have short : (linkData s.ring.counters).length ≤ partSize := by simp [linkData, partSize]
  rw [← linkData_eq]
  exact congrArg Host.Outcome.next
    (deliver_ask_onePart (t := modifyCounters (fun _ => .reset) s) atOnce (by simp [messagePayload, maxPayload])
      (by simp [isLaneReset]) (fun _ => rfl) unreserved short)

/-! ## Flags and their bits (R186, R187, R189) -/

theorem flagNumber_lt (f : ConditionFlag) : flagNumber f < 20 := by cases f <;> decide

/-- The bit of CLOCKINVALID is at no other flag's number. -/
theorem flagBit_clockinvalid_getLsbD (f : ConditionFlag) :
    (flagBit .clockinvalid).getLsbD (flagNumber f) = decide (f = .clockinvalid) := by cases f <;> decide

/-- At a flag's number a set of 24 bits says the same as its low 20 bits. -/
theorem setWidth_getLsbD_flagNumber (set : BitVec 24) (f : ConditionFlag) :
    (set.setWidth 20).getLsbD (flagNumber f) = set.getLsbD (flagNumber f) := by
  simp [flagNumber_lt]

/-- A flag stays after a clear when it was set and is not in the set, or is CLOCKINVALID while the clock is INVALID (R187). -/
theorem clearedFlags_getLsbD (c : ConditionUnit) (clockValid : Bool) (set : BitVec 24) (f : ConditionFlag) :
    (clearedFlags c clockValid (set.setWidth 20)).getLsbD (flagNumber f)
      = (c.flags.getLsbD (flagNumber f)
          && (!set.getLsbD (flagNumber f) || (decide (f = .clockinvalid) && !clockValid))) := by
  have inRange := flagNumber_lt f
  cases clockValid with
  | true => simp [clearedFlags, inRange]
  | false => simp [clearedFlags, inRange, ← flagBit_clockinvalid_getLsbD]

section
variable (c : ConditionUnit)

@[simp] theorem flagsData_length : (flagsData c).length = 6 := by simp [flagsData]

variable {i : Nat} (sent : i < 24)
include sent

/-- Bytes 0 to 2 of an answer are the flags. -/
theorem flagsData_flags_getLsbD : ((flagsData c).getD (i / 8) 0).getLsbD (i % 8) = c.flags.getLsbD i := by
  rw [flagsData, List.getD_append _ _ _ _ (by simp; omega), natBytes_getLsbD _ (by omega) (by omega), Nat.div_add_mod]
  rfl

/-- Bytes 3 to 5 of an answer are the mask. -/
theorem flagsData_mask_getLsbD : ((flagsData c).getD (3 + i / 8) 0).getLsbD (i % 8) = c.mask.getLsbD i := by
  rw [flagsData, List.getD_append_right _ _ _ _ (by simp), natBytes_length, Nat.add_sub_cancel_left,
    natBytes_getLsbD _ (by omega) (by omega), Nat.div_add_mod]
  rfl

end

/-! ## FLAGS READ, FLAGS CLEAR and MASK SET (R187) -/

section
variable (set : BitVec 24) (s : State)

theorem serve_flagsClear : serve 0x11 (natBytes 3 set.toNat) s = serveFlagsClear set s :=
  congrArg (serveFlagsClear · s) (le24_natBytes set)

theorem serve_maskSet : serve 0x12 (natBytes 3 set.toNat) s = serveMaskSet set s :=
  congrArg (serveMaskSet · s) (le24_natBytes set)

end

section
variable {code : Byte} {args : List Byte} {dest src : Byte} {s : State} (c : ConditionUnit)

/-- An ask of the condition unit served at once is answered by the unit as the ask leaves it. -/
theorem deliver_conditionAsk (atOnce : servedAtOnce dest src 1 s) (fits : args.length ≤ 3) (notReset : code ≠ 0x05)
    (serves : ∀ n, serve code args (setReserved n s) = ⟨setReserved n (s.withCond c), .ok, flagsData c⟩) :
    deliver dest src (.ask code args) s = joinAnswer (oneAnswer src code .ok (flagsData c)) (s.withCond c) :=
  have ⟨_, _, unreserved, _⟩ := atOnce
  deliver_ask_onePart atOnce (by simp [messagePayload, maxPayload]; omega) (decide_eq_false fun reset => notReset reset.1) serves
    unreserved (by simp [partSize])

end

/-- Settles O22. The three asks differ in the condition unit that each leaves; the answer has its flags and its mask, each bit in
the byte of its number. -/
theorem conditionAsks : Obligations.ConditionAsks := by
  refine fun dest src set s atOnce => ⟨?read, ⟨clearedFlags s.cond s.clock.valid (set.setWidth 20), ?clear,
    clearedFlags_getLsbD s.cond s.clock.valid set⟩, ⟨set.setWidth 20, ?mask, setWidth_getLsbD_flagNumber set⟩, ?numbers,
    fun c => ⟨flagsData_length c, fun f => ?bits⟩⟩
  case read =>
    exact congrArg Host.Outcome.next (deliver_conditionAsk s.cond atOnce (by simp) (by decide) fun _ => rfl)
  case clear =>
    exact congrArg Host.Outcome.next
      (deliver_conditionAsk _ atOnce (by simp) (by decide) fun n => serve_flagsClear set (setReserved n s))
  case mask =>
    exact congrArg Host.Outcome.next
      (deliver_conditionAsk _ atOnce (by simp) (by decide) fun n => serve_maskSet set (setReserved n s))
  case numbers =>
    intro f
    cases f <;> rfl
  case bits =>
    have sent : flagNumber f < 24 := (flagNumber_lt f).trans (by decide)
    exact ⟨flagsData_flags_getLsbD c sent, flagsData_mask_getLsbD c sent⟩

end Sys2Proof.Machine
end

section
/-! SUPPORT. Frames, messages and their bytes, read and written (R175, R177, R189, R190). -/

namespace Sys2Proof.Machine

/-! ## The bytes of a number (R189) -/

theorem bytesNat_natBytes (n : Nat) : ∀ w, bytesNat (natBytes n w) = w % 256 ^ n := by
  induction n with
  | zero => intro w; simp [natBytes, bytesNat, Nat.mod_one]
  | succ n ih =>
    intro w
    rw [natBytes, bytesNat, ih, BitVec.toNat_ofNat, Nat.pow_succ' (m := 256), Nat.mod_mul]

theorem natBytes_bytesNat (bs : List Byte) : natBytes bs.length (bytesNat bs) = bs := by
  induction bs with
  | nil => rfl
  | cons b bs ih =>
    have low : BitVec.ofNat 8 (b.toNat + 256 * bytesNat bs) = b := by
      apply BitVec.eq_of_toNat_eq
      rw [BitVec.toNat_ofNat, Nat.add_mul_mod_self_left, Nat.mod_eq_of_lt b.isLt]
    have high : (b.toNat + 256 * bytesNat bs) / 256 = bytesNat bs := by
      have := b.isLt
      omega
    simp only [List.length_cons, natBytes, bytesNat, low, high, ih]

theorem bytesNat_lt (bs : List Byte) : bytesNat bs < 256 ^ bs.length := by
  induction bs with
  | nil => simp [bytesNat]
  | cons b bs ih =>
    have := b.isLt
    simp only [bytesNat, List.length_cons, Nat.pow_succ]
    omega

theorem natBytes_eq_map (n : Nat) : ∀ w, natBytes n w = (List.range n).map fun i => BitVec.ofNat 8 (w / 256 ^ i) := by
  induction n with
  | zero => intro w; rfl
  | succ n ih =>
    intro w
    rw [natBytes, ih, List.range_succ_eq_map, List.map_cons, List.map_map]
    congr 1
    · simp
    · refine List.map_congr_left fun i _ => ?_
      simp [Nat.div_div_eq_div_mul, Nat.pow_succ', Nat.succ_eq_add_one]

/-- The statements' layout of a number is the model's. -/
theorem eq_natBytes {low : Nat → Nat → List Byte}
    (h : ∀ n w, low n w = (List.range n).map fun i => BitVec.ofNat 8 (w / 256 ^ i)) : low = natBytes := by
  funext n w
  rw [h, natBytes_eq_map]

theorem natBytes_le16 (a b : Byte) : natBytes 2 (le16 a b).toNat = [a, b] := by
  have h : (le16 a b).toNat = bytesNat [a, b] := by
    simpa [le16] using Nat.mod_eq_of_lt (bytesNat_lt [a, b])
  rw [h]
  exact natBytes_bytesNat [a, b]

theorem natBytes_le24 (a b c : Byte) : natBytes 3 (le24 a b c).toNat = [a, b, c] := by
  have h : (le24 a b c).toNat = bytesNat [a, b, c] := by
    simpa [le24] using Nat.mod_eq_of_lt (bytesNat_lt [a, b, c])
  rw [h]
  exact natBytes_bytesNat [a, b, c]

theorem le16_natBytes (w : BitVec 16) : le16 (BitVec.ofNat 8 w.toNat) (BitVec.ofNat 8 (w.toNat / 256)) = w := by
  apply BitVec.eq_of_toNat_eq
  have h : bytesNat [BitVec.ofNat 8 w.toNat, BitVec.ofNat 8 (w.toNat / 256)] = w.toNat % 256 ^ 2 :=
    bytesNat_natBytes 2 w.toNat
  rw [le16, h, BitVec.toNat_ofNat]
  have := w.isLt
  omega

/-! ## The samples of a LINE (R190) -/

/-- The pairs of bytes that 16-bit numbers spell are read back, one by one. -/
theorem le16_getD_flatMap (ws : List (BitVec 16)) :
    ∀ i, (h : i < ws.length) →
      le16 ((ws.flatMap fun w => natBytes 2 w.toNat).getD (2 * i) 0)
        ((ws.flatMap fun w => natBytes 2 w.toNat).getD (2 * i + 1) 0) = ws[i] := by
  induction ws with
  | nil => intro i h; cases h
  | cons w ws ih =>
    intro i h
    cases i with
    | zero => simpa [natBytes] using le16_natBytes w
    | succ i => simpa [natBytes, Nat.mul_add] using ih i (by simpa using h)

theorem samplesOf_sampleBytes (samples : Vector (BitVec 16) 24) : samplesOf (sampleBytes samples) = samples := by
  refine Vector.ext fun i hi => ?_
  have h := le16_getD_flatMap samples.toList i (by simpa using hi)
  simpa [samplesOf, sampleBytes] using h

/-- Bytes read in pairs as 16-bit numbers are the bytes those numbers spell. -/
theorem flatMap_pairs (n : Nat) : ∀ bs : List Byte, bs.length = 2 * n →
    ((List.ofFn fun i : Fin n => le16 (bs.getD (2 * i.val) 0) (bs.getD (2 * i.val + 1) 0)).flatMap fun w =>
      natBytes 2 w.toNat) = bs := by
  induction n with
  | zero => intro bs h; simpa using (List.length_eq_zero_iff.mp h).symm
  | succ n ih =>
    intro bs h
    match bs, h with
    | a :: b :: bs, h =>
      have tail := ih bs (by simp at h; omega)
      have head : natBytes 2 (le16 a b).toNat = [a, b] := natBytes_le16 a b
      rw [List.ofFn_succ, List.flatMap_cons]
      simpa [head, Nat.mul_add] using tail

theorem sampleBytes_samplesOf {bs : List Byte} (h : bs.length = 48) : sampleBytes (samplesOf bs) = bs := by
  have := flatMap_pairs 24 bs h
  simpa [sampleBytes, samplesOf, Vector.toList_ofFn] using this

theorem sampleBytes_length (samples : Vector (BitVec 16) 24) : (sampleBytes samples).length = 48 := by
  simp [sampleBytes, List.length_flatMap]

/-! ## Messages (R177, R190) -/

theorem posBytes_eq (p : Pos) :
    posBytes p = [BitVec.ofNat 8 p.toNat, BitVec.ofNat 8 (p.toNat / 256), BitVec.ofNat 8 (p.toNat / 256 / 256)] := rfl

/-- A message is read from its own kind and payload. -/
theorem messageOf_own (m : Message) : messageOf (messageKind m) (messagePayload m) = some m := by
  cases m with
  | tick p => simp [-BitVec.ofNat_toNat, messageOf, messageKind, messagePayload, posBytes_eq, le24_natBytes]
  | leadEdge p => simp [-BitVec.ofNat_toNat, messageOf, messageKind, messagePayload, posBytes_eq, edgeOf, le24_natBytes]
  | trailEdge p => simp [-BitVec.ofNat_toNat, messageOf, messageKind, messagePayload, posBytes_eq, edgeOf, le24_natBytes]
  | line h p w =>
    cases h <;>
      simp [-BitVec.ofNat_toNat, messageOf, messageKind, messagePayload, posBytes_eq, lineOf, le24_natBytes,
        sampleBytes_length, headCode, samplesOf_sampleBytes]
  | arrive n p => simp [-BitVec.ofNat_toNat, messageOf, messageKind, messagePayload, posBytes_eq, reportOf, le24_natBytes]
  | swept n => simp [messageOf, messageKind, messagePayload, reportOf]
  | headfault h t => cases t <;> simp [-BitVec.ofNat_toNat, messageOf, messageKind, messagePayload, reportOf, natBytes, le16_natBytes]
  | purgedone h o => cases o <;> simp [messageOf, messageKind, messagePayload, reportOf, outcomeCode]
  | ask c args => simp [messageOf, messageKind, messagePayload]

theorem edgeOf_eq_some {payload : List Byte} {m : Message} (h : edgeOf payload = some m) :
    messageKind m = 0x02 ∧ payload = messagePayload m := by
  unfold edgeOf at h
  split at h
  · split at h
    · cases h
      simp [messageKind, messagePayload, posBytes, natBytes_le24, *]
    · split at h
      · cases h
        simp [messageKind, messagePayload, posBytes, natBytes_le24, *]
      · cases h
  · cases h

theorem lineOf_eq_some {payload : List Byte} {m : Message} (h : lineOf payload = some m) :
    messageKind m = 0x03 ∧ payload = messagePayload m := by
  unfold lineOf at h
  split at h
  · split at h
    · cases h
    · next len =>
      have _ := sampleBytes_samplesOf (Decidable.not_not.mp len)
      split at h
      · cases h
        simp [messageKind, messagePayload, posBytes, natBytes_le24, headCode, *]
      · split at h
        · cases h
          simp [messageKind, messagePayload, posBytes, natBytes_le24, headCode, *]
        · cases h
  · cases h

theorem reportOf_eq_some {payload : List Byte} {m : Message} (h : reportOf payload = some m) :
    messageKind m = 0x05 ∧ payload = messagePayload m := by
  unfold reportOf at h
  split at h
  · repeat' split at h
    all_goals cases h
    all_goals simp [messageKind, messagePayload, *]
  · repeat' split at h
    all_goals cases h
    all_goals simp_all [messageKind, messagePayload, outcomeCode]
  · repeat' split at h
    all_goals cases h
    simp [messageKind, messagePayload, natBytes_le16, *]
  · repeat' split at h
    all_goals cases h
    simp [messageKind, messagePayload, posBytes, natBytes_le24, *]
  · cases h

/-- A kind and a payload that say a message are the message's own. -/
theorem messageOf_eq_some {kind : Byte} {payload : List Byte} {m : Message} (h : messageOf kind payload = some m) :
    kind = messageKind m ∧ payload = messagePayload m := by
  unfold messageOf at h
  split at h
  · next k =>
    split at h
    · cases h
      exact ⟨k, by simp [messagePayload, posBytes, natBytes_le24]⟩
    · cases h
  split at h
  · next k => exact ⟨k.trans (edgeOf_eq_some h).1.symm, (edgeOf_eq_some h).2⟩
  split at h
  · next k => exact ⟨k.trans (lineOf_eq_some h).1.symm, (lineOf_eq_some h).2⟩
  split at h
  · next k => exact ⟨k.trans (reportOf_eq_some h).1.symm, (reportOf_eq_some h).2⟩
  split at h
  · next k =>
    split at h
    · cases h
      exact ⟨k, rfl⟩
    · cases h
  · cases h

theorem messageOf_iff (kind : Byte) (payload : List Byte) (m : Message) :
    messageOf kind payload = some m ↔ kind = messageKind m ∧ payload = messagePayload m :=
  ⟨messageOf_eq_some, fun ⟨hk, hp⟩ => by rw [hk, hp, messageOf_own]⟩

/-! ## The frames that the part sends (R189, R190) -/

theorem stationByte_toNat (n : Station) : (n.setWidth 8 : Byte).toNat = n.toNat := by
  have := n.isLt
  simp
  omega

/-- The bytes of a part number with its last-part bit (R182). -/
theorem partByte_toNat {part : Nat} (last : Bool) (h : part < 128) :
    (BitVec.ofNat 8 (part + if last then 128 else 0)).toNat = part + if last then 128 else 0 := by
  cases last <;> simp <;> omega

/-- Settles O8: a message and its payload determine each other, and the payloads sent are laid out as R190 gives them. -/
theorem messageRoundTrip : Obligations.MessageRoundTrip := by
  refine ⟨messageOf_iff, fun low hlow => ?_⟩
  obtain rfl := eq_natBytes hlow
  refine ⟨⟨fun p => ⟨rfl, rfl, rfl, rfl, rfl, rfl⟩, ?line, fun n p => ⟨rfl, rfl, rfl, rfl⟩, fun h t => ⟨?fault, rfl, fun q => rfl⟩,
    ?purge, fun code args => ⟨rfl, rfl⟩⟩, ?orders, ?replies⟩
  case line =>
    intro h p samples
    exact ⟨rfl, by cases h <;> rfl⟩
  case fault => cases t <;> rfl
  case purge =>
    intro h o
    exact ⟨rfl, by cases o <;> rfl⟩
  case orders =>
    rintro own ⟨dest, o⟩ f rfl
    refine ⟨stationByte_toNat dest, stationByte_toNat own, rfl, ?_⟩
    refine ⟨?_, ?_, ?_, ?_, ?_, ?_, ?_, ?_⟩ <;> intros <;> subst_vars <;> simp_all [orderFrame, orderPayload, pathCode, posBytes, natBytes]
  case replies =>
    intro own dest f
    refine ⟨?_, ?_, ?_⟩
    · rintro code status part last data rfl
      refine ⟨stationByte_toNat dest, stationByte_toNat own, rfl, statusCode status, _, rfl, ?_, partByte_toNat last⟩
      cases status <;> rfl
    · rintro flag rfl
      refine ⟨stationByte_toNat dest, stationByte_toNat own, rfl, BitVec.ofNat 8 (flagNumber flag), rfl, ?_⟩
      cases flag <;> rfl
    · rintro cause rfl
      cases cause <;> exact ⟨stationByte_toNat dest, stationByte_toNat own, rfl, rfl⟩

/-! ## Frames as bytes (R175, R189) -/

theorem parseFrame_frameBytes {f : Frame} (fits : f.payload.length ≤ maxPayload) : parseFrame (frameBytes f) = some f := by
  have hlen : (BitVec.ofNat 8 f.payload.length).toNat = f.payload.length := by
    simp [maxPayload] at fits ⊢
    omega
  have hcheck : (checkBytes (crc (frameBody f))).length = 2 := rfl
  have hbytes : frameBytes f = f.dest :: f.src :: f.kind :: BitVec.ofNat 8 f.payload.length
      :: (f.payload ++ checkBytes (crc (frameBody f))) := rfl
  rw [hbytes]
  simp [parseFrame, hlen, hcheck, Nat.not_lt.mpr fits]

/-- Bytes with a whole header are read by their stated length and their check alone. -/
theorem parseFrame_cons (dest src kind len : Byte) (rest : List Byte) :
    parseFrame (dest :: src :: kind :: len :: rest)
      = if maxPayload < len.toNat ∨ rest.length ≠ len.toNat + 2 ∨
            rest.drop len.toNat ≠ checkBytes (crc (dest :: src :: kind :: len :: rest.take len.toNat))
        then none else some ⟨dest, src, kind, rest.take len.toNat⟩ := by
  by_cases bad : maxPayload < len.toNat ∨ rest.length ≠ len.toNat + 2
  · simp only [parseFrame, if_pos bad]
    rw [if_pos (bad.imp_right Or.inl)]
  · obtain ⟨small, exact_⟩ := not_or.mp bad
    have hrest := Decidable.not_not.mp exact_
    have body : frameBody ⟨dest, src, kind, rest.take len.toNat⟩ = dest :: src :: kind :: len :: rest.take len.toNat := by
      simp [frameBody, hrest]
    simp only [parseFrame, if_neg bad, body]
    by_cases good : rest.drop len.toNat = checkBytes (crc (dest :: src :: kind :: len :: rest.take len.toNat))
    · rw [if_pos good, if_neg]
      simp [good, small, hrest]
    · rw [if_neg good, if_pos (.inr (.inr good))]

theorem parseFrame_short {bs : List Byte} (h : bs.length < 4) : parseFrame bs = none := by
  unfold parseFrame
  split
  · simp at h
    omega
  · rfl

/-- Bytes that are read as a frame are its bytes. -/
theorem frameBytes_of_parseFrame {bs : List Byte} {f : Frame} (h : parseFrame bs = some f) :
    frameBytes f = bs ∧ f.payload.length ≤ maxPayload := by
  match bs with
  | dest :: src :: kind :: len :: rest =>
    rw [parseFrame_cons] at h
    split at h
    · cases h
    · next good =>
      cases h
      obtain ⟨small, hlen, hcheck⟩ : len.toNat ≤ maxPayload ∧ rest.length = len.toNat + 2
          ∧ rest.drop len.toNat = checkBytes (crc (dest :: src :: kind :: len :: rest.take len.toNat)) := by
        simpa [not_or] using good
      have body : frameBody ⟨dest, src, kind, rest.take len.toNat⟩ = dest :: src :: kind :: len :: rest.take len.toNat := by
        simp [frameBody, hlen]
      refine ⟨?_, by simpa [hlen] using small⟩
      rw [frameBytes, body, ← hcheck]
      simp
  | [] | [_] | [_, _] | [_, _, _] => cases h

/-- Settles O7. -/
theorem frameBytesRoundTrip : Obligations.FrameBytesRoundTrip :=
  ⟨rfl, fun _ _ body => by subst body; rfl, fun _ => parseFrame_frameBytes, fun _ _ => frameBytes_of_parseFrame⟩

/-! ## The check (R175) -/

/-- One bit into the check register, as R175 gives it. -/
def crcBit (c : BitVec 16) (bit : Bool) : BitVec 16 :=
  if c.getLsbD 15 = bit then c <<< 1 else (c <<< 1) ^^^ BitVec.ofNat 16 (2 ^ 12 + 2 ^ 5 + 1)

/-- A shift is linear: what is added to the register before it decides the bit that enters, and is shifted itself. -/
theorem crcShift_xor (c x : BitVec 16) : crcShift (c ^^^ x) = crcBit c (x.getLsbD 15) ^^^ (x <<< 1) := by
  have hmsb : (c ^^^ x).msb = (c.getLsbD 15 ^^ x.getLsbD 15) := by
    rw [BitVec.msb_xor, BitVec.msb_eq_getLsbD_last, BitVec.msb_eq_getLsbD_last]
  have hshift : (c ^^^ x) <<< 1 = (c <<< 1) ^^^ (x <<< 1) := BitVec.shiftLeft_xor_distrib c x 1
  unfold crcShift crcBit
  rw [hmsb, hshift]
  cases c.getLsbD 15 <;> cases x.getLsbD 15 <;> simp only [Bool.xor_self, Bool.xor_false, Bool.xor_true, Bool.not_false, reduceIte,
      Bool.false_eq_true, Bool.true_eq_false] <;> ac_rfl

/-- A byte's eight shifts take its bits in from the most significant one. -/
theorem crcByte_eq_bits (c : BitVec 16) (b : Byte) :
    crcByte c b = ([7, 6, 5, 4, 3, 2, 1, 0] : List Nat).foldl (fun c i => crcBit c (b.getLsbD i)) c := by
  have bits : ∀ k, k < 8 → ((b.setWidth 16 <<< 8) <<< k : BitVec 16).getLsbD 15 = b.getLsbD (7 - k) := by
    intro k hk
    have h15 : ¬ 15 - k < 8 := by omega
    have hlt : 15 < 16 := by decide
    have hle : ¬ 15 < k := by omega
    simp only [BitVec.getLsbD_shiftLeft, BitVec.getLsbD_setWidth]
    simp only [hlt, hle, h15, decide_true, decide_false, Bool.not_false, Bool.true_and]
    have : 15 - k - 8 = 7 - k := by omega
    rw [this]
    have h16 : 7 - k < 16 := by omega
    have h16' : 15 - k < 16 := by omega
    simp [h16, h16']
  have gone : ((b.setWidth 16 <<< 8) <<< 8 : BitVec 16) = 0#16 := by
    ext i hi
    simp
  have step : ∀ (k : Nat) (c : BitVec 16), k < 8 → crcShift (c ^^^ ((b.setWidth 16 <<< 8) <<< k))
      = crcBit c (b.getLsbD (7 - k)) ^^^ ((b.setWidth 16 <<< 8) <<< (k + 1)) := by
    intro k c hk
    rw [crcShift_xor, bits k hk, BitVec.shiftLeft_add]
  have start : c ^^^ (b.setWidth 16 <<< 8) = c ^^^ ((b.setWidth 16 <<< 8) <<< 0 : BitVec 16) := by simp
  rw [crcByte, start, step 0 _ (by decide), step 1 _ (by decide), step 2 _ (by decide), step 3 _ (by decide), step 4 _ (by decide),
    step 5 _ (by decide), step 6 _ (by decide), step 7 _ (by decide), gone]
  simp

theorem checkBytes_eq (c : BitVec 16) : checkBytes c = [BitVec.ofNat 8 (c.toNat / 256), BitVec.ofNat 8 (c.toNat % 256)] := by
  have high : (c >>> 8).setWidth 8 = BitVec.ofNat 8 (c.toNat / 256) := by
    apply BitVec.eq_of_toNat_eq
    simp [Nat.shiftRight_eq_div_pow]
  have low : c.setWidth 8 = BitVec.ofNat 8 (c.toNat % 256) := by
    apply BitVec.eq_of_toNat_eq
    simp
  rw [checkBytes, high, low]

/-! ## Bad frames (R175) -/

theorem parseFrame_eq_none_iff (bs : List Byte) :
    parseFrame bs = none ↔
      bs.length < 4 ∨ 56 < (bs.getD 3 0).toNat ∨ bs.length ≠ 4 + (bs.getD 3 0).toNat + 2
        ∨ bs.drop (4 + (bs.getD 3 0).toNat) ≠ checkBytes (crc (bs.take (4 + (bs.getD 3 0).toNat))) := by
  match bs with
  | dest :: src :: kind :: len :: rest =>
    rw [parseFrame_cons]
    have h4 : ∀ n, 4 + n = n + 1 + 1 + 1 + 1 := by omega
    have hlen : (rest.length ≠ len.toNat + 2) = (rest.length + 1 + 1 + 1 + 1 ≠ len.toNat + 1 + 1 + 1 + 1 + 2) := by
      apply propext; omega
    simp only [h4, maxPayload, hlen, List.length_cons, List.getD_cons_succ, List.getD_cons_zero, List.drop_succ_cons,
      List.take_succ_cons]
    have long : ¬ rest.length + 1 + 1 + 1 + 1 < 4 := by omega
    simp only [long, false_or, ite_eq_left_iff, reduceCtorEq, imp_false, Decidable.not_not]
  | [] | [_] | [_, _] | [_, _, _] => simp [parseFrame_short]

theorem satInc16_toNat (c : BitVec 16) : (satInc16 c).toNat = min (c.toNat + 1) 65535 := by
  unfold satInc16
  split
  · next h => subst h; rfl
  · next h =>
    have hne : c.toNat ≠ 65535 := fun e => h (BitVec.eq_of_toNat_eq e)
    have := c.isLt
    simp
    omega

theorem execBadFrame_of_bad {bs : List Byte} (h : parseFrame bs = none) (s : State) :
    exec (.badFrame bs) s = .next (discardBadFrame s) := by
  show Host.Outcome.next (receiveBytes bs s) = _
  rw [receiveBytes, h]

/-- Settles O9. -/
theorem badFrames : Obligations.BadFrames := by
  refine ⟨parseFrame_eq_none_iff, ?check, checkBytes_eq, ?discard⟩
  case check =>
    intro shift hshift bs
    obtain rfl : shift = crcBit := by
      funext c bit
      exact hshift c bit
    exact congrArg (fun f => bs.foldl f 0xFFFF) (funext fun c => funext fun b => crcByte_eq_bits c b)
  case discard =>
    intro bs s bad
    exact ⟨_, execBadFrame_of_bad bad s, rfl, satInc16_toNat _, setFlag_sets _ .linkerr⟩

/-! ## Commands as frames (R175 to R177) -/

/-- The reception of a message's own frame is the delivery of the message. -/
theorem receive_messageFrame (dest src : Byte) (m : Message) (s : State) :
    receive (messageFrame dest src m) s = deliver dest src m s := by
  have taken : takeFrame (messageFrame dest src m) = takeMessage (station src) m := by
    funext s
    show (match messageOf (messageKind m) (messagePayload m) with
      | some m' => takeMessage (station src) m' s
      | none => countUnknownKind s) = _
    rw [messageOf_own]
  unfold receive deliver
  rw [taken]
  rfl

/-- Settles O10, by the constructors of the commands: each frame command delivers the message whose frame it stands for, or
receives its frame. -/
theorem commandsAreFrames : Obligations.CommandsAreFrames := by
  intro c f s h
  cases c
  case badFrame bs =>
    have h' : parseFrame bs = some f := h
    show Host.Outcome.next (receiveBytes bs s) = _
    rw [receiveBytes, h']
  case forwardedFrame | ownFrameReturn | unknownKind => cases h; rfl
  case powerOnReset | evaluationCompletion | sendingCompletion | restartTimerExpiry | faultWindowExpiry | purgeTimeout
      | secondEvent | resetRelease => cases h
  all_goals
    cases h
    exact congrArg Host.Outcome.next (receive_messageFrame _ _ _ s).symm

end Sys2Proof.Machine
end

section
/-! SUPPORT. How operations reach the ring port and the condition unit: by marks, notices, issued orders, a decision's orders and
counters alone. What these five keep, every operation made of them keeps. -/

namespace Sys2Proof.Machine

/-- From s to t the ring port and the condition unit change by flags marked, notices sent, orders issued, orders joined where the
order queue has room, and link counters changed, and by nothing else. -/
inductive Signals : State → State → Prop where
  | still {s t : State} (ring : t.ring = s.ring) (cond : t.cond = s.cond) : Signals s t
  | mark (f : ConditionFlag) (s : State) : Signals s (markFlag f s)
  | notice (n : Reply) (s : State) : Signals s (sendNotice n s)
  | issue (p : WaitPlace) (o : OrderFrame) (s : State) : Signals s (issueOrder p o s)
  | order (o : OrderFrame) (s : State) (room : s.ring.orders.length < orderCapacity) : Signals s (joinOrder o s)
  | counters (f : LinkCounters → LinkCounters) (s : State) : Signals s (modifyCounters f s)
  | trans {s t u : State} (first : Signals s t) (second : Signals t u) : Signals s u

/-! ## Chaining -/

namespace Signals

theorem refl (s : State) : Signals s s := .still rfl rfl

/-- An operation whose frame names neither block. -/
theorem ofFrame {bs : List Block} {s t : State} (h : changesOnly bs s t)
    (free : (decide (Block.ring ∉ bs) && decide (Block.cond ∉ bs)) = true) : Signals s t := by
  simp only [Bool.and_eq_true, decide_eq_true_eq] at free
  exact .still (h .ring free.1) (h .cond free.2)

theorem foldl {α : Type} {f : State → α → State} (h : ∀ s a, Signals s (f s a)) (xs : List α) :
    ∀ s, Signals s (xs.foldl f s) := by
  induction xs with
  | nil => exact refl
  | cons x xs ih => exact fun s => (h s x).trans (ih _)

theorem ite {s t u : State} {p : Prop} [Decidable p] (h : p → Signals s t) (k : ¬p → Signals s u) :
    Signals s (if p then t else u) := by
  split
  · exact h ‹_›
  · exact k ‹_›

end Signals

variable (s : State)

/-! ## Flags, notices and tallies -/

theorem setFlag_signals (f) : Signals s (setFlag f s) := by
  rcases setFlag_cases s f with ⟨-, e⟩ | ⟨-, -, e⟩ | ⟨-, -, -, e⟩ <;> rw [e]
  · exact .refl s
  · exact .mark f s
  · exact (Signals.mark f s).trans (.notice _ _)

theorem sendHalt_signals (c) : Signals s (sendHalt c s) := .notice _ s

theorem count_signals (i) : Signals s (count i s) :=
  .ite (fun _ => (Signals.ofFrame (withTally_frame s _) rfl).trans (setFlag_signals _ _))
    (fun _ => .ofFrame (withTally_frame s _) rfl)

theorem countStrayReport_signals : Signals s (countStrayReport s) := .counters _ s

theorem countUnknownKind_signals : Signals s (countUnknownKind s) := .counters _ s

/-! ## Cancel unit -/

theorem startPurge_signals (h) : Signals s (startPurge h s) :=
  (Signals.issue _ _ s).trans (.ofFrame (modifyHead_frame _ _ _) rfl)

theorem proceedIfEmpty_signals (h) : Signals s (proceedIfEmpty h s) :=
  .ite (fun _ => startPurge_signals s h) fun _ => .refl s

theorem expireBooking_signals (b) : Signals s (expireBooking s b) :=
  (Signals.ofFrame (setPrintStatus_frame s _ _) rfl).trans (count_signals _ _)

theorem expireHead_signals (h) : Signals s (expireHead h s) :=
  .ite (fun _ => .refl s) fun _ =>
    (Signals.ofFrame (modifyHead_frame s _ _) rfl).trans
      ((Signals.foldl expireBooking_signals _ _).trans (proceedIfEmpty_signals _ _))

theorem expireBookings_signals : Signals s (expireBookings s) := .foldl expireHead_signals _ s

theorem dropBooking_signals (b) : Signals s (dropBooking s b) :=
  (Signals.ofFrame (setPrintStatus_frame s _ _) rfl).trans (count_signals _ _)

theorem dropBookings_signals (h) : Signals s (dropBookings h s) :=
  have dropped := (Signals.ofFrame (modifyHead_frame s h _) rfl).trans
    (Signals.foldl dropBooking_signals s.heads[h].bookings _)
  .ite (fun _ => dropped) fun _ => dropped.trans (setFlag_signals _ _)

theorem removeBookingAt_signals (q h) : Signals s (removeBookingAt q h s) :=
  .ite (fun _ => (Signals.ofFrame (modifyHead_frame s _ _) rfl).trans (proceedIfEmpty_signals _ _)) fun _ => .refl s

theorem removeBooking_signals (q) : Signals s (removeBooking q s) := .foldl (fun s h => removeBookingAt_signals s q h) _ s

theorem emptyBookings_signals : Signals s (emptyBookings s) :=
  (Signals.ofFrame (withHeads_frame s _) rfl).trans (.foldl proceedIfEmpty_signals _ _)

theorem faultTag_signals (h q) : Signals s (faultTag h q s) := by
  unfold faultTag
  split
  · exact .refl s
  · split
    · exact .refl s
    · exact .ite (fun _ => (Signals.ofFrame (setPrintStatus_frame s _ _) rfl).trans
        ((count_signals _ _).trans (setFlag_signals _ _))) fun _ => .refl s

theorem afterFault_signals (h t b) : Signals s (afterFault h t b s) := by
  have tagged : ∀ u, Signals u (match t with
      | none => u
      | some t => faultTag h t u) := by
    intro u
    cases t with
    | none => exact .refl u
    | some t => exact faultTag_signals u h t
  have flagged := (setFlag_signals s .headfault).trans (tagged _)
  exact .ite (fun _ => flagged.trans (setFlag_signals _ _)) fun _ => flagged

theorem headfaultAt_signals (h t) : Signals s (headfaultAt h t s) := by
  have faulted : ∀ (u : State) (f : Head → Head) b, Signals u (afterFault h t b (modifyHead h f u)) := fun u f b =>
    (Signals.ofFrame (modifyHead_frame u h f) rfl).trans (afterFault_signals _ h t b)
  have dropped : ∀ (f g : Head → Head), Signals s (if s.heads[h].faultWindow.isSome = true
      then afterFault h t true (modifyHead h f (dropBookings h s))
      else afterFault h t false (modifyHead h g (dropBookings h s))) := fun f g =>
    .ite (fun _ => (dropBookings_signals s h).trans (faulted _ f _)) fun _ => (dropBookings_signals s h).trans (faulted _ g _)
  unfold headfaultAt
  split
  · exact dropped _ _
  · exact dropped _ _
  · exact faulted _ _ _
  · exact faulted _ _ _
  · exact countStrayReport_signals s
  · exact countStrayReport_signals s

theorem headfaultReport_signals (h t) : Signals s (headfaultReport h t s) := by
  unfold headfaultReport
  split
  · exact headfaultAt_signals s _ t
  · exact countStrayReport_signals s

theorem purgedoneReport_signals (h o) : Signals s (purgedoneReport h o s) := by
  unfold purgedoneReport
  split
  · exact .ite (fun _ => .ofFrame (modifyHead_frame s _ _) rfl) fun _ => countStrayReport_signals s
  · exact countStrayReport_signals s

theorem restartExpiry_signals (h) : Signals s (restartExpiry h s) := .ofFrame (restartExpiry_frame s h) rfl

theorem windowExpiry_signals (h) : Signals s (windowExpiry h s) := .ofFrame (windowExpiry_frame s h) rfl

theorem purgeExpiry_signals (h) : Signals s (purgeExpiry h s) :=
  .ite (fun _ => (Signals.ofFrame (modifyHead_frame s _ _) rfl).trans
    ((setFlag_signals _ _).trans (setFlag_signals _ _))) fun _ => .refl s

theorem enableHead_signals (h) : Signals s (enableHead h s).1 := .ofFrame (enableHead_frame s h) rfl

theorem disableHead_signals (h) : Signals s (disableHead h s) :=
  (dropBookings_signals s h).trans (.ofFrame (modifyHead_frame _ _ _) rfl)

theorem purgeHead_signals (h) : Signals s (purgeHead h s).1 := by
  unfold purgeHead
  split
  · split
    · exact startPurge_signals s h
    · exact .ofFrame (modifyHead_frame s _ _) rfl
  all_goals exact .refl s

theorem abortPurgeHead_signals (h) : Signals s (abortPurgeHead h s).1 := by
  unfold abortPurgeHead
  split
  · exact .ofFrame (modifyHead_frame s _ _) rfl
  · split
    · exact .refl s
    · exact (Signals.issue _ _ s).trans (.ofFrame (modifyHead_frame _ _ _) rfl)
  all_goals exact .refl s

theorem headAction_signals (a h) : Signals s (headAction a h s).1 := by
  cases a with
  | enable => exact enableHead_signals s h
  | disable => exact disableHead_signals s h
  | purge => exact purgeHead_signals s h
  | abortPurge => exact abortPurgeHead_signals s h
  | status => exact .refl s

/-! ## Stacker unit -/

theorem issueLamp_signals (n) : Signals s (issueLamp n s) := .issue _ _ s

theorem enterFull_signals (n) : Signals s (enterFull n s) :=
  .ite (fun _ => (setFlag_signals s _).trans (sendHalt_signals _ _)) fun _ => setFlag_signals s _

theorem recomputeLamp_signals (n) : Signals s (recomputeLamp n s) := by
  rcases recomputeLamp_cases s n with ⟨-, e⟩ | ⟨-, e⟩
  · rw [e]
    exact .refl s
  · rw [e _ rfl]
    have issued := (Signals.ofFrame (modifyStacker_frame s n fun k => { k with lamp := lampConditionOf s n }) rfl).trans
      (issueLamp_signals _ n)
    exact .ite (fun _ => issued.trans (enterFull_signals _ n)) fun _ => issued

theorem recomputeLamps_signals : Signals s (recomputeLamps s) := .foldl recomputeLamp_signals _ s

theorem reissueLamps_signals : Signals s (reissueLamps s) :=
  .foldl (fun s n => .ite (fun _ => issueLamp_signals s n) fun _ => .refl s) _ s

theorem sweep_signals (n) : Signals s (sweep n s) :=
  (Signals.ofFrame (modifyStacker_frame s _ _) rfl).trans (recomputeLamp_signals _ n)

theorem sweptReport_signals (b) : Signals s (sweptReport b s) := by
  unfold sweptReport
  split
  · exact sweep_signals s _
  · exact countStrayReport_signals s

/-! ## Routing unit -/

theorem lateDisposition_signals (l c) : Signals s (lateDisposition l c s) :=
  (Signals.ofFrame (reserve_frame s _) rfl).trans <| (Signals.ofFrame (writeDisposition_frame _ _ _ _ _) rfl).trans <|
    (recomputeLamp_signals _ _).trans <| (Signals.ofFrame (appendPlan_frame _ _ _) rfl).trans <|
    (count_signals _ _).trans (setFlag_signals _ _)

theorem rowSelection_signals (l v) : Signals s (rowSelection l v s).2 := by
  unfold rowSelection
  split
  · exact count_signals s _
  · dsimp only
    split
    · exact .refl s
    · exact count_signals s _

theorem gatePhase_signals (l k) : Signals s (gatePhase l k s).2 := by
  unfold gatePhase
  split
  · exact .refl s
  · exact .refl s
  · exact (count_signals s _).trans (setFlag_signals _ _)

theorem printPhase_signals (l v g) : Signals s (printPhase l v g s).2.2 := by
  unfold printPhase
  split
  · exact .refl s
  · split
    · exact .ofFrame (addBooking_frame s _ _) rfl
    · exact (count_signals s _).trans (setFlag_signals _ _)

theorem stackerPhase_signals (k p c) : Signals s (stackerPhase k p c s).2.2 := by
  unfold stackerPhase
  split
  · exact .ofFrame (reserve_frame s _) rfl
  · split
    · exact .ofFrame (reserve_frame s _) rfl
    · exact (count_signals s _).trans (.ofFrame (reserve_frame _ _) rfl)

/-! ## The length of the order queue -/

theorem grantRing_orders_length_le (r : RingPort) : (grantRing r).orders.length ≤ r.orders.length := by
  rcases grantRing_cases r with ⟨-, h⟩ | ⟨-, -, h⟩ | ⟨-, -, -, -, h⟩ | ⟨-, -, -, h⟩ <;> rw [h]
  · unfold grantOrder
    split
    · exact Nat.le_refl _
    · split <;> simp [*]
  · unfold grantForward
    split <;> exact Nat.le_refl _
  · unfold grantAnswer
    split <;> exact Nat.le_refl _

theorem joinOrder_orders_length_le (o) : (joinOrder o s).ring.orders.length ≤ s.ring.orders.length + 1 :=
  (grantRing_orders_length_le _).trans (by simp)

theorem joinAnswer_orders_length_le (a) : (joinAnswer a s).ring.orders.length ≤ s.ring.orders.length :=
  grantRing_orders_length_le _

theorem sendNotice_orders_length_le (n) : (sendNotice n s).ring.orders.length ≤ s.ring.orders.length := by
  rcases sendNotice_cases s n with ⟨-, e⟩ | ⟨-, e⟩ <;> rw [e]
  · exact Nat.le_refl _
  · exact joinAnswer_orders_length_le s n

theorem setFlag_orders_length_le (f) : (setFlag f s).ring.orders.length ≤ s.ring.orders.length := by
  rcases setFlag_cases s f with ⟨-, e⟩ | ⟨-, -, e⟩ | ⟨-, -, -, e⟩ <;> rw [e]
  · exact Nat.le_refl _
  · exact sendNotice_orders_length_le (markFlag f s) _

theorem count_orders_length_le (i) : (count i s).ring.orders.length ≤ s.ring.orders.length := by
  rcases count_cases s i with ⟨-, e⟩ | ⟨-, e⟩ <;> rw [e]
  · exact Nat.le_refl _
  · exact setFlag_orders_length_le _ _

theorem rowSelection_orders_length_le (l v) : (rowSelection l v s).2.ring.orders.length ≤ s.ring.orders.length := by
  unfold rowSelection
  split
  · exact count_orders_length_le s _
  · dsimp only
    split
    · exact Nat.le_refl _
    · exact count_orders_length_le s _

theorem gatePhase_orders_length_le (l k) : (gatePhase l k s).2.ring.orders.length ≤ s.ring.orders.length := by
  unfold gatePhase
  split
  · exact Nat.le_refl _
  · exact Nat.le_refl _
  · exact (setFlag_orders_length_le _ _).trans (count_orders_length_le s _)

theorem printPhase_orders_length_le (l v g) : (printPhase l v g s).2.2.ring.orders.length ≤ s.ring.orders.length := by
  unfold printPhase
  split
  · exact Nat.le_refl _
  · split
    · exact Nat.le_refl _
    · exact (setFlag_orders_length_le _ _).trans (count_orders_length_le s _)

theorem stackerPhase_orders_length_le (k p c) :
    (stackerPhase k p c s).2.2.ring.orders.length ≤ s.ring.orders.length := by
  unfold stackerPhase
  split
  · exact Nat.le_refl _
  · split
    · exact Nat.le_refl _
    · exact count_orders_length_le s _

/-! ## The routing decision -/

theorem decisionOrders_length_le (l g pr n) : (decisionOrders s l g pr n).length ≤ placesForDecision := by
  have gate : (match g.switchAt with
      | none => []
      | some x => [gateOrder s g.path x] : List OrderFrame).length ≤ 1 := by cases g.switchAt <;> simp
  have print : (match pr with
      | none => []
      | some (a, pat) => [printOrder s l.seq a pat] : List OrderFrame).length ≤ 1 := by rcases pr with _ | ⟨a, pat⟩ <;> simp
  have stack : (if isResidue n then [] else [stackOrder s l n]).length ≤ 1 := by split <;> simp
  unfold decisionOrders
  rw [List.length_append, List.length_append]
  exact Nat.add_le_add (Nat.add_le_add gate print) stack

/-- Orders that the order queue has room for join one after another. -/
theorem joinOrders_signals (os : List OrderFrame) : ∀ s : State, s.ring.orders.length + os.length ≤ orderCapacity →
    Signals s (os.foldl (fun s o => joinOrder o s) s) := by
  induction os with
  | nil => exact fun s _ => .refl s
  | cons o os ih =>
    intro s room
    rw [List.length_cons] at room
    refine (Signals.order o s (by omega)).trans (ih _ ?_)
    have := joinOrder_orders_length_le s o
    omega

theorem commitDecision_signals (l k g pr n c) (room : s.ring.orders.length + placesForDecision ≤ orderCapacity) :
    Signals s (commitDecision l k g pr n c s) := by
  have written := (Signals.ofFrame (writeDisposition_frame s l.seq ⟨g.path, n, k.row, c⟩ (printOf pr)
    (arrivalWindow s n l.leading)) rfl).trans (.ofFrame (appendPlan_frame _ l g.path) rfl)
  have joined : ∀ u : State, u.ring = s.ring →
      Signals u (recomputeLamp n ((decisionOrders u l g pr n).foldl (fun s o => joinOrder o s) u)) := by
    intro u hu
    have := decisionOrders_length_le u l g pr n
    exact (joinOrders_signals _ u (by rw [hu]; omega)).trans (recomputeLamp_signals _ n)
  unfold commitDecision
  dsimp only
  split
  · exact (written.trans (.ofFrame (withRouting_frame _ _) rfl)).trans (joined _ rfl)
  · exact written.trans (joined _ rfl)

theorem routingDecision_signals (l v) : Signals s (routingDecision l v s) := by
  refine .ite (fun _ => lateDisposition_signals s l _) fun room => ?_
  have start : s.ring.orders.length + placesForDecision ≤ orderCapacity := by
    simp only [freeOrderPlaces, placesForDecision, orderCapacity] at room ⊢
    omega
  have h1 := rowSelection_orders_length_le s l v
  have h2 := gatePhase_orders_length_le (rowSelection l v s).2 l (rowSelection l v s).1
  have h3 := printPhase_orders_length_le (gatePhase l (rowSelection l v s).1 (rowSelection l v s).2).2 l v
    (gatePhase l (rowSelection l v s).1 (rowSelection l v s).2).1
  refine (rowSelection_signals s l v).trans ((gatePhase_signals _ l _).trans ((printPhase_signals _ l v _).trans
    ((stackerPhase_signals _ _ _ _).trans (commitDecision_signals _ _ _ _ _ _ _ ?_))))
  exact (Nat.add_le_add_right ((stackerPhase_orders_length_le _ _ _ _).trans (h3.trans (h2.trans h1))) _).trans start

/-! ## Evaluation unit -/

theorem completeSubject_signals (l) : Signals s (completeSubject l s) := by
  have released : ∀ u, Signals u (releaseSubject u) := fun u => .ofFrame (releaseSubject_frame u) rfl
  unfold completeSubject
  split
  · exact released s
  · rename_i ws _
    dsimp only
    have recorded : Signals s (count (tallyOfKind (verdictOf s.store.tables ws).1.markKind)
        (recordVerdict l.seq (verdictOf s.store.tables ws).1 (verdictOf s.store.tables ws).2 s)) :=
      (Signals.ofFrame (recordVerdict_frame s _ _ _) rfl).trans (count_signals _ _)
    split
    · split
      · exact recorded.trans (released _)
      · exact recorded.trans ((routingDecision_signals _ _ _).trans (released _))
    · exact recorded.trans (released _)

theorem completeEvaluation_signals : Signals s (completeEvaluation s) := by
  unfold completeEvaluation
  split
  · exact .refl s
  · split
    · exact .ofFrame (releaseSubject_frame s) rfl
    · split
      · exact .ofFrame (releaseSubject_frame s) rfl
      · exact completeSubject_signals s _

/-! ## Letter track -/

theorem closeLetter_signals (l L e f) : Signals s (closeLetter l L e f s) := by
  have flagged : ∀ (b : Bool) (g : ConditionFlag) (u : State), Signals u (if b then setFlag g u else u) := fun b g u =>
    .ite (fun _ => setFlag_signals u g) fun _ => .refl u
  unfold closeLetter
  exact (Signals.ofFrame (modifyLetter_frame s _ _) rfl).trans <| (flagged _ _ _).trans <|
    (Signals.ofFrame (withScan_frame _ _) rfl).trans <| (flagged _ _ _).trans (.ofFrame (setLastTrailing_frame _ _) rfl)

theorem closeEdgelost_signals (l) : Signals s (closeEdgelost l s) := closeLetter_signals s l _ _ _

theorem stackerShare_signals (l c) : Signals s (stackerShare l c s) := by
  unfold stackerShare
  split
  · exact .refl s
  · have retired := fun n => Signals.ofFrame (retireFrom_frame s n c) rfl
    cases c with
    | delivered => exact (retired _).trans ((count_signals _ _).trans (recomputeLamp_signals _ _))
    | lost => exact (retired _).trans ((setFlag_signals _ _).trans (recomputeLamp_signals _ _))
    | abandoned => exact retired _

theorem retire_signals (l c) : Signals s (retire l c s) :=
  (Signals.ofFrame (removeLetter_frame s _) rfl).trans <| (count_signals _ _).trans <| (stackerShare_signals _ l c).trans <|
    (removeBooking_signals _ _).trans <| (Signals.ofFrame (forgetSubject_frame _ _) rfl).trans
      (.ofFrame (drainIfEmpty_frame _) rfl)

theorem abandonLetter_signals (l) : Signals s (abandonLetter count s l) := by
  unfold abandonLetter
  split
  · exact count_signals s _
  · exact (count_signals s _).trans (.ofFrame (retireFrom_frame _ _ _) rfl)

theorem abandonLetters_signals : Signals s (abandonLetters count s) :=
  (Signals.ofFrame (withTrack_frame s _) rfl).trans <| (Signals.foldl abandonLetter_signals _ _).trans <|
    (Signals.ofFrame (withEval_frame _ _) rfl).trans <| (Signals.ofFrame (withScan_frame _ _) rfl).trans
      (.ofFrame (emptyPlan_frame _) rfl)

theorem enterStopped_signals : Signals s (enterStopped s) :=
  (abandonLetters_signals s).trans <| (recomputeLamps_signals _).trans <| (emptyBookings_signals _).trans
    (.ofFrame (setMode_frame _ _) rfl)

theorem declareLate_signals (l) : Signals s (declareLate l s) := by
  have closed : ∀ u, Signals s u → Signals s (match findLetter u l.seq with
      | none => u
      | some l' => lateDisposition l' .late u) := by
    intro u hu
    split
    · exact hu
    · exact hu.trans (lateDisposition_signals _ _ _)
  unfold declareLate
  cases l.state with
  | opened => exact closed _ ((closeEdgelost_signals s l).trans (.ofFrame (setTrailExpected_frame _ _) rfl))
  | queued => exact closed _ (.ofFrame (dropFromQueue_frame s _) rfl)
  | evaluating => exact closed _ (.refl s)
  | routed => exact closed _ (.refl s)

theorem testDeadline_signals (q) : Signals s (testDeadline q s) := by
  unfold testDeadline
  split
  · exact .refl s
  · exact .ite (fun _ => declareLate_signals s _) fun _ => .refl s

theorem testWindowEnd_signals (q) : Signals s (testWindowEnd q s) := by
  unfold testWindowEnd
  split
  · exact .refl s
  · exact .ite (fun _ => retire_signals s _ _) fun _ => .refl s

theorem trackAdvance_signals : Signals s (trackAdvance s) :=
  .foldl (fun s q => (testDeadline_signals s q).trans (testWindowEnd_signals _ q)) _ s

theorem inOrder_signals (o) : Signals s (inOrder o s) := by
  have retired : ∀ u, Signals u (retirePlan u) := fun u => .ofFrame (retirePlan_frame u) rfl
  have perhaps : ∀ (b : Bool) (u v w : State), Signals u v → Signals u w → Signals u (if b then v else w) :=
    fun b u v w h k => .ite (fun _ => h) fun _ => k
  unfold inOrder
  exact (perhaps _ _ _ _ (retired s) (.refl s)).trans <| (perhaps _ _ _ _ (expireBookings_signals _) (.refl _)).trans <|
    (trackAdvance_signals _).trans <| (perhaps _ _ _ _ (.refl _) (retired _)).trans
      (perhaps _ _ _ _ (.refl _) (expireBookings_signals _))

theorem ownersAdvance_signals : Signals s (ownersAdvance s) :=
  .ite (fun _ => inOrder_signals s _) fun _ => (Signals.ofFrame (withChoices_frame s _) rfl).trans (inOrder_signals _ _)

theorem takePosition_signals (f) : Signals s (takePosition f s) :=
  .ite (fun _ => (Signals.ofFrame (withPosition_frame s _) rfl).trans (ownersAdvance_signals _)) fun _ => .refl s

theorem admitLetter_signals (f) : Signals s (admitLetter f s) :=
  (Signals.ofFrame (withTrack_frame s _) rfl).trans <| (count_signals _ _).trans (.ofFrame (withScan_frame _ _) rfl)

theorem refuseLead_signals : Signals s (refuseLead s) :=
  (count_signals s _).trans <| (setFlag_signals _ _).trans <| (sendHalt_signals _ _).trans
    (.ofFrame (setTrailExpected_frame _ _) rfl)

theorem leadEdgeAt_signals (f) : Signals s (leadEdgeAt f s) := by
  have expects : ∀ b u, Signals u (setTrailExpected b u) := fun b u => .ofFrame (setTrailExpected_frame u b) rfl
  unfold leadEdgeAt
  split
  · have admitted : ∀ u, Signals s u → Signals s (if (setTrailExpected false u).track.letters.length < trackCapacity
        then admitLetter f (setTrailExpected false u) else refuseLead (setTrailExpected false u)) := fun u hu =>
      (hu.trans (expects false u)).trans (.ite (fun _ => admitLetter_signals _ f) fun _ => refuseLead_signals _)
    cases openLetter s with
    | none => exact admitted s (.refl s)
    | some l => exact admitted _ ((closeEdgelost_signals s l).trans (.ofFrame (queueLetter_frame _ _) rfl))
  · exact (count_signals s _).trans (expects true _)

theorem looseTrail_signals (x) : Signals s (looseTrail x s) := by
  unfold looseTrail
  split
  · exact (Signals.ofFrame (setTrailExpected_frame s _) rfl).trans
      (.ite (fun _ => .ofFrame (setLastTrailing_frame _ _) rfl) fun _ => .refl _)
  · exact (Signals.ofFrame (withTrack_frame s _) rfl).trans (.ite (fun _ => setFlag_signals _ _) fun _ => .refl _)

theorem trailEdgeAt_signals (x) : Signals s (trailEdgeAt x s) := by
  unfold trailEdgeAt
  split
  · exact (closeLetter_signals s _ _ _ _).trans (.ofFrame (queueLetter_frame _ _) rfl)
  · exact looseTrail_signals s x

theorem arriveReport_signals (n x) : Signals s (arriveReport n x s) := by
  unfold arriveReport arriveAt
  split
  · split
    · exact retire_signals s _ _
    · exact (count_signals s _).trans (setFlag_signals _ _)
  · exact countStrayReport_signals s

/-! ## Table store, modes and the timebase -/

theorem abortLoad_signals : Signals s (abortLoad s) :=
  (Signals.ofFrame (setLoad_frame s _) rfl).trans (setFlag_signals _ _)

theorem commitEffects_signals (t) : Signals s (commitEffects t s) := by
  cases t with
  | geometry => exact .ofFrame (formDistances_frame s _) rfl
  | stacker => exact (Signals.ofFrame (formDistances_frame s _) rfl).trans (recomputeLamps_signals _)
  | lamp => exact reissueLamps_signals s
  | signature | routing | pattern | scanset | office => exact .refl s

theorem commitLoad_signals (l) : Signals s (commitLoad l s) :=
  (Signals.ofFrame (withStore_frame s _) rfl).trans (commitEffects_signals _ _)

theorem applyMode_signals (m) : Signals s (applyMode m s) := by
  cases m with
  | stopped => exact enterStopped_signals s
  | running => exact .ofFrame (setMode_frame s _) rfl
  | service => exact .ofFrame (setMode_frame s _) rfl
  | draining => exact (Signals.ofFrame (setMode_frame s _) rfl).trans (.ofFrame (drainIfEmpty_frame _) rfl)

theorem applyEntry_signals (e) : Signals s (applyEntry s e) :=
  .ite (fun _ => enableHead_signals s _) fun _ => disableHead_signals s _

theorem headMillisecond_signals (h) : Signals s (headMillisecond s h) := by
  have window : Signals s (windowMillisecond h s) := .ofFrame (windowMillisecond_frame s h) rfl
  have purge : ∀ u, Signals u (purgeMillisecond h u) := by
    intro u
    unfold purgeMillisecond
    split
    · exact .refl u
    · exact .ite (fun _ => purgeExpiry_signals u h) fun _ => .ofFrame (modifyHead_frame u _ _) rfl
  exact window.trans ((purge _).trans (.ofFrame (restartMillisecond_frame _ h) rfl))

theorem millisecondEvent_signals : Signals s (millisecondEvent s) := .foldl headMillisecond_signals _ s

theorem timebaseTick_signals : Signals s (timebaseTick s) := by
  refine .ite (fun _ => .refl s) fun _ => Signals.trans (t := millisecondTick s) ?_ (.ofFrame (secondTick_frame _) rfl)
  exact .ite (fun _ => .ofFrame (withTime_frame s _) rfl)
    fun _ => (Signals.ofFrame (withTime_frame s _) rfl).trans (millisecondEvent_signals _)

/-! ## The asks -/

theorem modeTests_signals (m es) : Signals s (modeTests m es s).state := by
  unfold modeTests
  split
  · exact setFlag_signals s _
  · split
    · exact .refl s
    · exact (applyMode_signals s m).trans (.foldl applyEntry_signals _ _)

theorem serveMode_signals (t e) : Signals s (serveMode t e s).state := by
  unfold serveMode
  split
  · split
    · exact .refl s
    · exact modeTests_signals s _ _
  · exact .refl s

theorem serveTableRow_signals (r) : Signals s (serveTableRow r s).state := by
  unfold serveTableRow
  split
  · exact .refl s
  · split
    · exact .refl s
    · split
      · exact abortLoad_signals s
      · exact .ofFrame (setLoad_frame s _) rfl

theorem serveTableCommit_signals (x) : Signals s (serveTableCommit x s).state := by
  unfold serveTableCommit
  split
  · exact .refl s
  · split
    · exact .refl s
    split
    · exact abortLoad_signals s
    split
    · exact abortLoad_signals s
    split
    · exact abortLoad_signals s
    split
    · exact abortLoad_signals s
    · exact commitLoad_signals s _

theorem serveHeadControl_signals (h a) : Signals s (serveHeadControl h a s).state := by
  unfold serveHeadControl
  split
  · dsimp only
    split
    · exact .refl s
    · exact headAction_signals s _ _
  · exact .refl s

theorem serveStackerSweep_signals (w) : Signals s (serveStackerSweep w s).state := .foldl sweep_signals _ s

end Sys2Proof.Machine
end

section
/-! SUPPORT. The forms of an ask: which service its code and the number of its argument bytes select (R182, R191). -/

namespace Sys2Proof.Machine

/-- The service that a code and argument bytes select, one constructor for each layout of R191. -/
inductive ServiceForm : Byte → List Byte → (State → Served) → Prop where
  | badLength (code args) : ServiceForm code args badLength
  | identify : ServiceForm 0x01 [] serveIdentify
  | echo (args) : ServiceForm 0x02 args (serveEcho args)
  | linkStatus : ServiceForm 0x03 [] serveLinkStatus
  | mode (target entries) : entries.length % 2 = 0 → ServiceForm 0x04 (target :: entries) (serveMode target entries)
  | tableOpen (t f n) : ServiceForm 0x06 [t, f, n] (serveTableOpen t f n)
  | tableRow (args) : ServiceForm 0x07 args (serveTableRow args)
  | tableCommit (a b) : ServiceForm 0x08 [a, b] (serveTableCommit (le16 a b))
  | tableAbort : ServiceForm 0x09 [] serveTableAbort
  | tableRead (k position) : ServiceForm 0x0A (tableReadArgs k position) (serveTableRead k position)
  | protect (args) : args.length ≤ 8 → ServiceForm 0x0B args (serveProtect args)
  | tallyFreeze (o) : ServiceForm 0x0C [o] (serveTallyFreeze o)
  | tallyRead (k start) : ServiceForm 0x0D (tallyReadArgs k start) (serveTallyRead k start)
  | clockSet (y m d h mi se w) : ServiceForm 0x0E [y, m, d, h, mi, se, w] (serveClockSet y m d h mi se w)
  | clockRead : ServiceForm 0x0F [] serveClockRead
  | flagsRead : ServiceForm 0x10 [] serveFlagsRead
  | flagsClear (a b c) : ServiceForm 0x11 [a, b, c] (serveFlagsClear (le24 a b c))
  | maskSet (a b c) : ServiceForm 0x12 [a, b, c] (serveMaskSet (le24 a b c))
  | headControl (h a) : ServiceForm 0x13 [h, a] (serveHeadControl h a)
  | stackerSweep (set) : ServiceForm 0x14 [set] (serveStackerSweep set)
  | trackRead : ServiceForm 0x15 [] (serveTrackRead none)
  | trackReadFrom (a b) : ServiceForm 0x15 [a, b] (serveTrackRead (some (le16 a b)))
  | unknown (code args) : code ∉ askCodes → ServiceForm code args fun s => ⟨s, .unknown, []⟩

theorem askCodes_iff (c : Byte) : c ∈ askCodes ↔ 1 ≤ c.toNat ∧ c.toNat ≤ 0x15 := by
  constructor
  · intro h
    simp only [askCodes, List.mem_cons, List.not_mem_nil, or_false] at h
    repeat' rcases h with rfl | h
    all_goals decide
  · rintro ⟨low, high⟩
    have ofNat : c = BitVec.ofNat 8 c.toNat := by simp
    rw [ofNat]
    interval_cases c.toNat <;> decide

/-- A code that names no ask is answered UNKNOWN. -/
theorem serve_unknown {code : Byte} (h : code ∉ askCodes) (args : List Byte) (s : State) :
    serve code args s = ⟨s, .unknown, []⟩ := by
  simp only [askCodes, List.mem_cons, List.not_mem_nil, or_false, not_or] at h
  obtain ⟨h1, h2, h3, h4, h5, h6, h7, h8, h9, h10, h11, h12, h13, h14, h15, h16, h17, h18, h19, h20, h21⟩ := h
  unfold serve
  rw [if_neg h1, if_neg h2, if_neg h3, if_neg h4, if_neg h5, if_neg h6, if_neg h7, if_neg h8, if_neg h9, if_neg h10,
    if_neg h11, if_neg h12, if_neg h13, if_neg h14, if_neg h15, if_neg h16, if_neg h17, if_neg h18, if_neg h19, if_neg h20,
    if_neg h21]

/-- Every ask has one of the forms. -/
theorem serve_form (code : Byte) (args : List Byte) : ServiceForm code args (serve code args) := by
  have short : ∀ {p : Prop} [Decidable p] {f : State → Served}, (p → ServiceForm code args f) →
      ServiceForm code args fun s => if p then f s else badLength s := by
    intro p _ f h
    by_cases hp : p
    · simpa only [if_pos hp] using h hp
    · simpa only [if_neg hp] using .badLength code args
  by_cases known : code ∈ askCodes
  · simp only [askCodes, List.mem_cons, List.not_mem_nil, or_false] at known
    rcases known with rfl | rfl | rfl | rfl | rfl | rfl | rfl | rfl | rfl | rfl | rfl | rfl | rfl | rfl | rfl | rfl | rfl | rfl
      | rfl | rfl | rfl
    · match args with
      | [] => exact .identify
      | _ :: _ => exact .badLength _ _
    · exact .echo args
    · match args with
      | [] => exact .linkStatus
      | _ :: _ => exact .badLength _ _
    · match args with
      | [] => exact .badLength _ _
      | t :: es => exact short fun even => .mode t es even
    · exact .badLength _ _
    · match args with
      | [t, f, n] => exact .tableOpen t f n
      | [] | [_] | [_, _] | _ :: _ :: _ :: _ :: _ => exact .badLength _ _
    · exact .tableRow args
    · match args with
      | [a, b] => exact .tableCommit a b
      | [] | [_] | _ :: _ :: _ :: _ => exact .badLength _ _
    · match args with
      | [] => exact .tableAbort
      | _ :: _ => exact .badLength _ _
    · match args with
      | [k] => exact .tableRead k none
      | [k, t, r] => exact .tableRead k (some (t, r))
      | [] | [_, _] | _ :: _ :: _ :: _ :: _ => exact .badLength _ _
    · exact short fun few => .protect args few
    · match args with
      | [o] => exact .tallyFreeze o
      | [] | _ :: _ :: _ => exact .badLength _ _
    · match args with
      | [k] => exact .tallyRead k none
      | [k, i] => exact .tallyRead k (some i)
      | [] | _ :: _ :: _ :: _ => exact .badLength _ _
    · match args with
      | [y, m, d, h, mi, se, w] => exact .clockSet y m d h mi se w
      | [] | [_] | [_, _] | [_, _, _] | [_, _, _, _] | [_, _, _, _, _] | [_, _, _, _, _, _]
      | _ :: _ :: _ :: _ :: _ :: _ :: _ :: _ :: _ => exact .badLength _ _
    · match args with
      | [] => exact .clockRead
      | _ :: _ => exact .badLength _ _
    · match args with
      | [] => exact .flagsRead
      | _ :: _ => exact .badLength _ _
    · match args with
      | [a, b, c] => exact .flagsClear a b c
      | [] | [_] | [_, _] | _ :: _ :: _ :: _ :: _ => exact .badLength _ _
    · match args with
      | [a, b, c] => exact .maskSet a b c
      | [] | [_] | [_, _] | _ :: _ :: _ :: _ :: _ => exact .badLength _ _
    · match args with
      | [h, a] => exact .headControl h a
      | [] | [_] | _ :: _ :: _ :: _ => exact .badLength _ _
    · match args with
      | [set] => exact .stackerSweep set
      | [] | _ :: _ :: _ => exact .badLength _ _
    · match args with
      | [] => exact .trackRead
      | [a, b] => exact .trackReadFrom a b
      | [_] | _ :: _ :: _ :: _ => exact .badLength _ _
  · have e : serve code args = fun s => ⟨s, .unknown, []⟩ := funext (serve_unknown known args)
    rw [e]
    exact .unknown code args known

/-! ## How long an answer is -/

@[simp] theorem loadData_length (l : Option Load) : (loadData l).length = 7 := by
  cases l <;> simp [loadData]

@[simp] theorem discardData_length (l : Option Load) : (discardData l).length = 2 := by
  cases l <;> rfl

theorem tableOpen_length (t f n : Byte) (s : State) : (serveTableOpen t f n s).data.length = 9 := by
  unfold serveTableOpen
  split
  · simp
  · split
    · simp
    · split <;> simp

theorem tableRow_length (r : List Byte) (s : State) : (serveTableRow r s).data.length = 7 := by
  unfold serveTableRow
  split
  · simp
  · split
    · simp
    · split <;> simp

theorem tableCommit_length (x : BitVec 16) (s : State) : (serveTableCommit x s).data.length = 11 := by
  unfold serveTableCommit commitRefusal
  split
  · simp
  · split
    · simp
    split
    · simp
    split
    · simp
    split
    · simp
    split <;> simp

theorem headControl_length (h a : Byte) (s : State) : (serveHeadControl h a s).data.length = 6 := by
  unfold serveHeadControl
  split
  · dsimp only
    split <;> rfl
  · rfl

theorem clockSet_length (y m d h mi se w : Byte) (s : State) : (serveClockSet y m d h mi se w s).data.length = 9 := by
  unfold serveClockSet
  dsimp only
  split <;> rfl

theorem protect_length (ids : List Byte) (s : State) : (serveProtect ids s).data.length = 2 := by
  unfold serveProtect
  split
  · rfl
  · split <;> rfl

theorem stackerData_length (s : State) (removed : Nat) (n : Fin 8) : (stackerData s removed n).length = 18 := by
  simp [stackerData]

theorem stackerSweep_length (w : Byte) (s : State) : (serveStackerSweep w s).data.length = 144 := by
  simp [serveStackerSweep, List.length_flatMap, stackerData_length]

theorem letterData_length (l : Letter) : (letterData l).length = 25 := by
  unfold letterData posBytes
  cases l.length <;> cases l.verdict <;> cases l.disposition <;> cases l.print <;> simp

theorem rowsData_length (ts : Tables) (t : TableId) (r k : Nat) : (rowsData ts t r k).length = 16 * k := by
  simp [rowsData, rowBytes, List.length_flatMap, Nat.mul_comm]

theorem tableReadFrom_length_le (k : Nat) (t : TableId) (r : Nat) (s : State) :
    (tableReadFrom k t r s).data.length ≤ 3 * partSize := by
  unfold tableReadFrom cursorData
  split
  · simp [partSize]
  · next granted =>
    simp only [List.length_append, rowsData_length]
    simp [partSize]
    omega

theorem tableRead_length_le (k : Byte) (p : Option (Byte × Byte)) (s : State) :
    (serveTableRead k p s).data.length ≤ 3 * partSize := by
  unfold serveTableRead
  split
  · exact tableReadFrom_length_le _ _ _ _
  · split
    · simp [cursorData, partSize]
    · exact tableReadFrom_length_le _ _ _ _

theorem tallyRead_length_le (k : Byte) (i : Option Byte) (s : State) :
    (serveTallyRead k i s).data.length ≤ 3 * partSize := by
  by_cases refused : tallyReadRefused k.toNat i (tallyReadStart i s.tally)
  · rw [serveTallyRead_of_refused _ refused]
    simp [tallyData, partSize]
  · rw [serveTallyRead_of_granted _ rfl refused]
    simp only [tallyReadRefused, not_or] at refused
    simp [partSize, List.length_flatMap, counterData]
    omega

theorem mode_length_le (t : Byte) (es : List Byte) (s : State) : (serveMode t es s).data.length ≤ 3 * partSize := by
  unfold serveMode modeTests modeData
  split
  · split
    · simp [partSize]
    · split
      · simp [partSize]
      · split <;> simp [partSize]
        omega
  · simp [partSize]

theorem trackRead_length_le (q : Option Seq) (s : State) : (serveTrackRead q s).data.length ≤ 3 * partSize := by
  simp [serveTrackRead, List.length_flatMap, letterData_length, partSize]
  omega

/-- Every answer fits three parts (R182). -/
theorem ServiceForm.length_le {code : Byte} {args : List Byte} {f : State → Served} (form : ServiceForm code args f)
    (fits : args.length ≤ maxArgs) (s : State) : (f s).data.length ≤ 3 * partSize := by
  cases form with
  | badLength | unknown => exact Nat.zero_le _
  | identify => simp [serveIdentify, partSize]
  | linkStatus => simp [serveLinkStatus, linkData, partSize]
  | clockRead => simp [serveClockRead, clockFields, partSize]
  | flagsRead | flagsClear | maskSet => exact (flagsData_length _).trans_le (by decide)
  | tallyFreeze o =>
    by_cases named : o = 0 ∨ o = 1
    · rw [serveTallyFreeze_of_named s named]
      exact (freezeData_onePart _ _).trans (by decide)
    · rw [serveTallyFreeze_of_other s named]
      exact (freezeData_onePart _ _).trans (by decide)
  | echo => simpa [serveEcho, maxArgs, partSize] using fits.trans (by decide)
  | mode => exact mode_length_le _ _ s
  | tableOpen => rw [tableOpen_length]; decide
  | tableRow => rw [tableRow_length]; decide
  | tableCommit => rw [tableCommit_length]; decide
  | tableAbort => simp [serveTableAbort, partSize]
  | tableRead => exact tableRead_length_le _ _ s
  | protect => rw [protect_length]; decide
  | tallyRead => exact tallyRead_length_le _ _ s
  | clockSet => rw [clockSet_length]; decide
  | headControl => rw [headControl_length]; decide
  | stackerSweep => rw [stackerSweep_length]; decide
  | trackRead | trackReadFrom => exact trackRead_length_le _ s

theorem modeTests_length (m : LaneMode) (es : List HeadEntry) (s : State) :
    (modeTests m es s).data.length
      = if jumpForbidden s.track.mode m then 2
        else match (if s.track.mode = .stopped ∧ m = .running then missingTable s.store else none) with
          | some _ => 2
          | none => 2 + es.length := by
  unfold modeTests
  split
  · rfl
  · split <;> next e => simp +arith [modeData, e]

/-- How long an answer is does not depend on the ring port. -/
theorem ServiceForm.length_withRing {code : Byte} {args : List Byte} {f : State → Served} (form : ServiceForm code args f)
    (r : RingPort) (s : State) : (f (s.withRing r)).data.length = (f s).data.length := by
  cases form with
  | badLength | unknown | linkStatus | clockRead | flagsRead | flagsClear | maskSet | echo | identify | tableAbort
    | trackRead | trackReadFrom => rfl
  | mode t es =>
    unfold serveMode
    split
    · split
      · rfl
      · rw [modeTests_length, modeTests_length]
        rfl
    · rfl
  | tableOpen => rw [tableOpen_length, tableOpen_length]
  | tableRow => rw [tableRow_length, tableRow_length]
  | tableCommit => rw [tableCommit_length, tableCommit_length]
  | protect => rw [protect_length, protect_length]
  | clockSet => rw [clockSet_length, clockSet_length]
  | headControl => rw [headControl_length, headControl_length]
  | stackerSweep => rw [stackerSweep_length, stackerSweep_length]
  | tableRead k p =>
    have from_ : ∀ (k : Nat) (t : TableId) (i : Nat),
        (tableReadFrom k t i (s.withRing r)).data.length = (tableReadFrom k t i s).data.length := by
      intro k t i
      unfold tableReadFrom
      split <;> rfl
    unfold serveTableRead
    split
    · exact from_ _ _ _
    · split
      · rfl
      · exact from_ _ _ _
  | tallyFreeze o => unfold serveTallyFreeze; split <;> rfl
  | tallyRead k i =>
    have data : (serveTallyRead k i (s.withRing r)).data = (serveTallyRead k i s).data := by
      by_cases refused : tallyReadRefused k.toNat i (tallyReadStart i s.tally)
      · rw [serveTallyRead_of_refused _ refused, serveTallyRead_of_refused (s := s.withRing r) refused]
        rfl
      · rw [serveTallyRead_of_granted _ rfl refused, serveTallyRead_of_granted (s := s.withRing r) rfl refused]
        rfl
    rw [data]

/-! ## The parts of an answer (R182) -/

/-- How many parts an answer takes is decided by its length. -/
theorem answerParts_length_congr {d e : List Byte} (h : d.length = e.length) :
    (answerParts d).length = (answerParts e).length := by
  unfold answerParts
  rw [h]
  split
  · rfl
  · split <;> rfl

theorem answerParts_flatten (data : List Byte) : (answerParts data).flatten = data := by
  have third : data.drop (2 * partSize) = (data.drop partSize).drop partSize := by rw [List.drop_drop]; rfl
  unfold answerParts
  split
  · simp
  · split
    · simp
    · simp [third]

theorem answerParts_length_bounds (data : List Byte) : 1 ≤ (answerParts data).length ∧ (answerParts data).length ≤ 3 := by
  unfold answerParts
  split
  · simp
  · split <;> simp

theorem answerParts_dropLast {data p : List Byte} (h : p ∈ (answerParts data).dropLast) : p.length = partSize := by
  unfold answerParts at h
  split at h
  · simp at h
  · next long =>
    split at h
    · obtain rfl : p = data.take partSize := by simpa using h
      simp
      omega
    · next longer =>
      obtain rfl | rfl : p = data.take partSize ∨ p = (data.drop partSize).take partSize := by simpa using h
      · simp
        omega
      · simp
        omega

theorem answerParts_le {data p : List Byte} (short : data.length ≤ 3 * partSize) (h : p ∈ answerParts data) :
    p.length ≤ partSize := by
  unfold answerParts at h
  split at h
  · next one =>
    obtain rfl : p = data := by simpa using h
    exact one
  · split at h
    · next two =>
      obtain rfl | rfl : p = data.take partSize ∨ p = data.drop partSize := by simpa using h
      · simp
      · simp
        omega
    · obtain rfl | rfl | rfl : p = data.take partSize ∨ p = (data.drop partSize).take partSize
          ∨ p = data.drop (2 * partSize) := by simpa using h
      · simp
      · simp
      · simp
        omega

/-- Settles O18. -/
theorem answersInParts : Obligations.AnswersInParts := by
  intro code args s fits
  have short := (serve_form code args).length_le fits s
  refine ⟨answerParts_flatten _, (answerParts_length_bounds _).1, (answerParts_length_bounds _).2,
    fun p hp => answerParts_dropLast hp, fun p hp => answerParts_le short hp, ?_⟩
  intro dest r join hjoin
  refine ⟨fun a h => ?_, fun a b h => ?_, fun a b c h => ?_⟩ <;> rw [joinWhole, h] <;> simp only [joinParts, hjoin]

/-! ## Refused asks (R182, R191) -/

/-- A known code whose arguments fit none of its lengths. -/
theorem serve_badLength {code : Byte} {args : List Byte} (s : State)
    (h : (code ∈ ([0x01, 0x03, 0x05, 0x09, 0x0F, 0x10] : List Byte) ∧ args.length ≠ 0)
      ∨ (code = 0x04 ∧ args.length % 2 = 0)
      ∨ (code = 0x06 ∧ args.length ≠ 3)
      ∨ (code ∈ ([0x08, 0x13] : List Byte) ∧ args.length ≠ 2)
      ∨ (code = 0x0A ∧ args.length ≠ 1 ∧ args.length ≠ 3)
      ∨ (code = 0x0B ∧ 8 < args.length)
      ∨ (code ∈ ([0x0C, 0x14] : List Byte) ∧ args.length ≠ 1)
      ∨ (code = 0x0D ∧ args.length ≠ 1 ∧ args.length ≠ 2)
      ∨ (code = 0x0E ∧ args.length ≠ 7)
      ∨ (code ∈ ([0x11, 0x12] : List Byte) ∧ args.length ≠ 3)
      ∨ (code = 0x15 ∧ args.length ≠ 0 ∧ args.length ≠ 2)) :
    serve code args s = badLength s := by
  have form := serve_form code args
  generalize serve code args = f at form ⊢
  cases form with
  | badLength => rfl
  | unknown _ _ unknown =>
    simp only [List.mem_cons, List.not_mem_nil, or_false] at h
    rcases h with ⟨rfl | rfl | rfl | rfl | rfl | rfl, _⟩ | ⟨rfl, _⟩ | ⟨rfl, _⟩ | ⟨rfl | rfl, _⟩ | ⟨rfl, _⟩ | ⟨rfl, _⟩
      | ⟨rfl | rfl, _⟩ | ⟨rfl, _⟩ | ⟨rfl, _⟩ | ⟨rfl | rfl, _⟩ | ⟨rfl, _⟩ <;> exact absurd (by decide) unknown
  | mode _ _ even => simp at h; omega
  | tableRead _ p => rcases p with _ | ⟨t, r⟩ <;> simp [tableReadArgs] at h
  | tallyRead _ i => cases i <;> simp [tallyReadArgs] at h
  | protect _ few => simp at h; omega
  | _ => simp at h

end Sys2Proof.Machine
end

section
/-! SUPPORT. The ring port's invariant through every operation: its capacities with the places kept for an answer, the waiting
places behind a full order queue, and the idle output (R178 to R182). -/

namespace Sys2Proof.Machine

/-! ## The invariant with n places kept -/

/-- The capacities and waiting places of a ring port that keeps n places of the answer queue for an answer being formed. -/
structure RingFits (n : Nat) (r : RingPort) : Prop where
  forward : r.forward.length ≤ forwardCapacity
  orders : r.orders.length ≤ orderCapacity
  answers : r.answers.length + n ≤ answerCapacity
  intake : r.intake.length ≤ intakeCapacity
  waiting : r.waiting ≠ [] → r.orders.length = orderCapacity
  places : (r.waiting.map Waiting.place).Nodup
  reserved : r.reserved = n

/-- An idle output has nothing to send (R179). -/
def idleIsEmpty (r : RingPort) : Prop := r.sending = none → r.orders = [] ∧ r.forward = [] ∧ r.answers = []

/-- The ring port's invariant while n places are kept. -/
def RingHolds (n : Nat) (r : RingPort) : Prop := RingFits n r ∧ idleIsEmpty r

theorem ringInvariant_iff (r : RingPort) : ringInvariant r ↔ RingHolds 0 r := by
  constructor
  · rintro ⟨hf, ho, ha, hi, hw, hp, hidle, hr⟩
    exact ⟨⟨hf, ho, ha, hi, hw, hp, hr⟩, hidle⟩
  · rintro ⟨⟨hf, ho, ha, hi, hw, hp, hr⟩, hidle⟩
    exact ⟨hf, ho, ha, hi, hw, hp, hidle, hr⟩

section
variable {n : Nat} {r : RingPort}

theorem RingHolds.waiting_nil (h : RingHolds n r) (room : r.orders.length < orderCapacity) : r.waiting = [] :=
  Decidable.byContradiction fun w => Nat.ne_of_lt room (h.1.waiting w)

/-- Whatever is queued at an idle output, a grant leaves it sending or with nothing to send. -/
theorem grantRing_holds (h : RingFits n r) : RingHolds n (grantRing r) := by
  obtain ⟨forward, orders, answers, intake, waiting, places, reserved⟩ := h
  rcases grantRing_cases r with ⟨sends, e⟩ | ⟨-, ho, e⟩ | ⟨-, ho, hf, -, e⟩ | ⟨-, ho, hf, e⟩ <;> rw [e]
  · exact ⟨⟨forward, orders, answers, intake, waiting, places, reserved⟩, fun idle => by simp [idle] at sends⟩
  · obtain ⟨o, os, ho⟩ := List.exists_cons_of_ne_nil ho
    cases hw : r.waiting with
    | nil =>
      rw [grantOrder_cons ho hw]
      refine ⟨⟨forward, ?_, answers, intake, fun w => absurd hw w, by simp [hw], reserved⟩, fun idle => by cases idle⟩
      rw [ho, List.length_cons] at orders
      exact Nat.le_of_succ_le orders
    | cons w ws =>
      rw [grantOrder_cons_waiting ho hw]
      have full : os.length + 1 = orderCapacity := by
        simpa [ho] using waiting (by simp [hw])
      rw [hw, List.map_cons] at places
      exact ⟨⟨forward, by simpa using full.le, answers, intake, fun _ => by simpa using full, (List.nodup_cons.mp places).2,
        reserved⟩, fun idle => by cases idle⟩
  · obtain ⟨f, fs, hf⟩ := List.exists_cons_of_ne_nil hf
    rw [grantForward_cons hf]
    refine ⟨⟨?_, orders, answers, intake, waiting, places, reserved⟩, fun idle => by cases idle⟩
    rw [hf, List.length_cons] at forward
    exact Nat.le_of_succ_le forward
  · cases ha : r.answers with
    | nil =>
      have same : grantAnswer r = r := by simp [grantAnswer, ha]
      rw [same]
      refine ⟨⟨forward, orders, answers, intake, waiting, places, reserved⟩, fun _ => ⟨ho, ?_, ha⟩⟩
      exact hf.resolve_right fun h => h.1 ha
    | cons a as =>
      rw [grantAnswer_cons ha]
      refine ⟨⟨forward, orders, ?_, intake, waiting, places, reserved⟩, fun idle => by cases idle⟩
      rw [ha, List.length_cons] at answers
      simp only
      omega

end

section
variable {n : Nat} {s t : State}

theorem joinOrder_holds (h : RingHolds n s.ring) (o : OrderFrame) (room : s.ring.orders.length < orderCapacity) :
    RingHolds n (joinOrder o s).ring := by
  have none_waits := h.waiting_nil room
  obtain ⟨⟨forward, orders, answers, intake, waiting, places, reserved⟩, -⟩ := h
  exact grantRing_holds ⟨forward, by simpa using room, answers, intake, fun w => absurd none_waits w, places, reserved⟩

theorem joinAnswer_holds (h : RingHolds n s.ring) (a : Reply) (room : s.ring.answers.length + n + 1 ≤ answerCapacity) :
    RingHolds n (joinAnswer a s).ring := by
  obtain ⟨⟨forward, orders, answers, intake, waiting, places, reserved⟩, -⟩ := h
  refine grantRing_holds ⟨forward, orders, ?_, intake, waiting, places, reserved⟩
  simp
  omega

theorem joinForward_holds (h : RingHolds n s.ring) (f : Frame) (room : s.ring.forward.length < forwardCapacity) :
    RingHolds n (joinForward f s).ring := by
  obtain ⟨⟨forward, orders, answers, intake, waiting, places, reserved⟩, -⟩ := h
  exact grantRing_holds ⟨by simpa using room, orders, answers, intake, waiting, places, reserved⟩

theorem sendNotice_holds (h : RingHolds n s.ring) (a : Reply) : RingHolds n (sendNotice a s).ring := by
  rcases sendNotice_cases s a with ⟨-, e⟩ | ⟨room, e⟩ <;> rw [e]
  · exact ⟨⟨h.1.forward, h.1.orders, h.1.answers, h.1.intake, h.1.waiting, h.1.places, h.1.reserved⟩, h.2⟩
  · refine joinAnswer_holds h a ?_
    simp only [freeAnswerPlaces, h.1.reserved] at room
    omega

theorem issueOrder_holds (h : RingHolds n s.ring) (p : WaitPlace) (o : OrderFrame) : RingHolds n (issueOrder p o s).ring := by
  rcases issueOrder_cases s p o with ⟨room, e⟩ | ⟨full, e⟩ <;> rw [e]
  · exact joinOrder_holds h o room
  · exact ⟨⟨h.1.forward, h.1.orders, h.1.answers, h.1.intake, fun _ => le_antisymm h.1.orders full,
      takePlace_nodup p o _ h.1.places, h.1.reserved⟩, h.2⟩

/-- What the ring port and the condition unit are told keeps the invariant. -/
theorem Signals.holds (h : Signals s t) (k : RingHolds n s.ring) : RingHolds n t.ring := by
  induction h with
  | still ring cond => rwa [ring]
  | mark f s => exact k
  | notice a s => exact sendNotice_holds k a
  | issue p o s => exact issueOrder_holds k p o
  | order o s room => exact joinOrder_holds k o room
  | counters f s => exact ⟨⟨k.1.forward, k.1.orders, k.1.answers, k.1.intake, k.1.waiting, k.1.places, k.1.reserved⟩, k.2⟩
  | trans _ _ ih1 ih2 => exact ih2 (ih1 k)

theorem grant_intake (s : State) : (grant s).ring.intake = s.ring.intake := grantRing_intake _

theorem sendNotice_intake (a : Reply) (s : State) : (sendNotice a s).ring.intake = s.ring.intake := by
  rcases sendNotice_cases s a with ⟨-, e⟩ | ⟨-, e⟩ <;> rw [e]
  · rfl
  · exact grantRing_intake _

theorem Signals.intake (h : Signals s t) : t.ring.intake = s.ring.intake := by
  induction h with
  | still ring cond => rw [ring]
  | mark f s => rfl
  | notice a s => exact sendNotice_intake a s
  | issue p o s =>
    rcases issueOrder_cases s p o with ⟨-, e⟩ | ⟨-, e⟩ <;> rw [e]
    · exact grantRing_intake _
    · rfl
  | order o s room => exact grantRing_intake _
  | counters f s => rfl
  | trans _ _ ih1 ih2 => exact ih2.trans ih1

theorem Signals.own (h : Signals s t) : t.ring.own = s.ring.own := by
  induction h with
  | still ring cond => rw [ring]
  | mark f s => rfl
  | notice a s =>
    rcases sendNotice_cases s a with ⟨-, e⟩ | ⟨-, e⟩ <;> rw [e]
    · rfl
    · exact grantRing_own _
  | issue p o s =>
    rcases issueOrder_cases s p o with ⟨-, e⟩ | ⟨-, e⟩ <;> rw [e]
    · exact grantRing_own _
    · rfl
  | order o s room => exact grantRing_own _
  | counters f s => rfl
  | trans _ _ ih1 ih2 => exact ih2.trans ih1

/-- No flag is cleared. -/
theorem Signals.flags (h : Signals s t) {i : Nat} (k : s.cond.flags.getLsbD i = true) : t.cond.flags.getLsbD i = true := by
  induction h with
  | still ring cond => rwa [cond]
  | mark f s => simp [markFlag_flags, k]
  | notice a s => rcases sendNotice_cond s a with e | e <;> rw [e] <;> simp [k]
  | issue p o s => rwa [issueOrder_frame s p o .cond (by decide)]
  | order o s room => exact k
  | counters f s => exact k
  | trans _ _ ih1 ih2 => exact ih2 (ih1 k)

end

/-! ## Serving (R182) -/

section
variable {code : Byte} {args : List Byte} {f : State → Served}

/-- The service of an ask reaches the ring port by signals alone. -/
theorem ServiceForm.signals_or_ring (form : ServiceForm code args f) (s : State) :
    Signals s (f s).state ∨ (f s).state.ring = s.ring := by
  cases form with
  | badLength | unknown | identify | echo | clockRead | flagsRead => exact .inr rfl
  | linkStatus => exact .inl (.counters (fun _ => .reset) s)
  | mode => exact .inl (serveMode_signals s _ _)
  | tableOpen => exact .inr (serveTableOpen_frame s _ _ _ .ring (by decide))
  | tableRow => exact .inl (serveTableRow_signals s _)
  | tableCommit => exact .inl (serveTableCommit_signals s _)
  | tableAbort => exact .inr rfl
  | tableRead => exact .inr (serveTableRead_frame s _ _ .ring (by decide))
  | protect => exact .inr (serveProtect_frame s _ .ring (by decide))
  | tallyFreeze => exact .inr (serveTallyFreeze_frame s _ .ring (by decide))
  | tallyRead => exact .inr (serveTallyRead_frame s _ _ .ring (by decide))
  | clockSet => exact .inr (serveClockSet_frame s _ _ _ _ _ _ _ .ring (by decide))
  | flagsClear | maskSet => exact .inr rfl
  | headControl => exact .inl (serveHeadControl_signals s _ _)
  | stackerSweep => exact .inl (serveStackerSweep_signals s _)
  | trackRead | trackReadFrom => exact .inr rfl

end

theorem serve_holds {n : Nat} {s : State} (code : Byte) (args : List Byte) (h : RingHolds n s.ring) :
    RingHolds n (serve code args s).state.ring := by
  rcases (serve_form code args).signals_or_ring s with k | k
  · exact k.holds h
  · rwa [k]

theorem serve_intake (code : Byte) (args : List Byte) (s : State) : (serve code args s).state.ring.intake = s.ring.intake := by
  rcases (serve_form code args).signals_or_ring s with k | k
  · exact k.intake
  · rw [k]

theorem serve_own (code : Byte) (args : List Byte) (s : State) : (serve code args s).state.ring.own = s.ring.own := by
  rcases (serve_form code args).signals_or_ring s with k | k
  · exact k.own
  · rw [k]

theorem joinAnswer_answers_length_le (a : Reply) (s : State) :
    (joinAnswer a s).ring.answers.length ≤ s.ring.answers.length + 1 := by
  have granted : ∀ r : RingPort, (grantRing r).answers.length ≤ r.answers.length := by
    intro r
    rcases grantRing_cases r with ⟨-, h⟩ | ⟨-, -, h⟩ | ⟨-, -, -, -, h⟩ | ⟨-, -, -, h⟩ <;> rw [h]
    · unfold grantOrder
      split
      · exact Nat.le_refl _
      · split <;> exact Nat.le_refl _
    · unfold grantForward
      split <;> exact Nat.le_refl _
    · unfold grantAnswer
      split <;> simp [*]
  exact (granted _).trans (by simp)

theorem joinParts_holds (dest : Station) (code : Byte) (status : Status) (ds : List (List Byte)) :
    ∀ (n : Nat) (s : State), RingHolds 0 s.ring → s.ring.answers.length + ds.length ≤ answerCapacity →
      RingHolds 0 (joinParts dest code status n ds s).ring := by
  induction ds with
  | nil => exact fun _ _ h _ => h
  | cons d ds ih =>
    intro n s h room
    rw [List.length_cons] at room
    have joins : ∀ last, RingHolds 0 (joinAnswer (.answer dest code status n last d) s).ring := fun last =>
      joinAnswer_holds h _ (by omega)
    cases ds with
    | nil => exact joins true
    | cons e es =>
      refine ih _ _ (joins false) ?_
      have := joinAnswer_answers_length_le (.answer dest code status n false d) s
      omega

theorem joinParts_intake (dest : Station) (code : Byte) (status : Status) (ds : List (List Byte)) :
    ∀ (n : Nat) (s : State), (joinParts dest code status n ds s).ring.intake = s.ring.intake := by
  induction ds with
  | nil => exact fun _ _ => rfl
  | cons d ds ih =>
    intro n s
    cases ds with
    | nil => exact grantRing_intake _
    | cons e es => exact (ih _ _).trans (grantRing_intake _)

theorem joinParts_own (dest : Station) (code : Byte) (status : Status) (ds : List (List Byte)) :
    ∀ (n : Nat) (s : State), (joinParts dest code status n ds s).ring.own = s.ring.own := by
  induction ds with
  | nil => exact fun _ _ => rfl
  | cons d ds ih =>
    intro n s
    cases ds with
    | nil => exact grantRing_own _
    | cons e es => exact (ih _ _).trans (grantRing_own _)

/-- Places of the answer queue that are free can be kept. -/
theorem setReserved_holds {n : Nat} {s : State} (h : RingHolds 0 s.ring) (room : s.ring.answers.length + n ≤ answerCapacity) :
    RingHolds n (setReserved n s).ring :=
  ⟨⟨h.1.forward, h.1.orders, room, h.1.intake, h.1.waiting, h.1.places, rfl⟩, h.2⟩

theorem setReserved_zero_holds {n : Nat} {s : State} (h : RingHolds n s.ring) : RingHolds 0 (setReserved 0 s).ring :=
  ⟨⟨h.1.forward, h.1.orders, (Nat.le_add_right _ n).trans h.1.answers, h.1.intake, h.1.waiting, h.1.places, rfl⟩, h.2⟩

theorem resetBlocks_ring (s : State) : (resetBlocks s).ring = s.ring := resetBlocks_frame s .ring (by decide)

theorem resyncLamp_signals (s : State) (n : Fin 8) : Signals s (resyncLamp s n) :=
  (Signals.ofFrame (modifyStacker_frame s _ _) rfl).trans (issueLamp_signals _ n)

/-- A lane reset as far as its answer has joined the emptied queues (R185 steps 1 to 3). -/
def resetAnswered (src : Station) (s : State) : State :=
  let u := (resetBlocks s).withRing (resetRing (resetBlocks s).ring)
  joinAnswer (.answer src 0x05 .ok 0 true (laneResetData u s.track.letters.length)) u

/-- The LAMP orders of a lane reset, in stacker order (R185 step 4). -/
def resynced (s : State) : State := (List.finRange 8).foldl resyncLamp s

theorem laneReset_eq (src : Station) (s : State) :
    laneReset src s
      = (resynced (resetAnswered src s)).withCond (resetFlags (resynced (resetAnswered src s)).cond) := rfl

theorem resynced_signals (s : State) : Signals s (resynced s) := .foldl resyncLamp_signals _ s

theorem laneReset_ring (src : Station) (s : State) : (laneReset src s).ring = (resynced (resetAnswered src s)).ring := by
  rw [laneReset_eq, State.withCond_ring]

/-- A lane reset's answer joins empty queues and its LAMP orders follow. -/
theorem laneReset_holds {s : State} (src : Station) (h : RingHolds 0 s.ring) : RingHolds 0 (laneReset src s).ring := by
  have emptied : RingHolds 0 (resetRing (resetBlocks s).ring) := by
    rw [resetBlocks_ring]
    exact ⟨⟨by simp [resetRing], by simp [resetRing], by simp [resetRing], by simp [resetRing], by simp [resetRing],
      by simp [resetRing], h.1.reserved⟩, fun _ => ⟨rfl, rfl, rfl⟩⟩
  rw [laneReset_ring]
  refine (resynced_signals _).holds (joinAnswer_holds emptied _ ?_)
  show 0 + 0 + 1 ≤ answerCapacity
  decide

theorem laneReset_intake (src : Station) (s : State) : (laneReset src s).ring.intake = [] := by
  rw [laneReset_ring, (resynced_signals _).intake]
  exact grantRing_intake _

theorem laneReset_own (src : Station) (s : State) : (laneReset src s).ring.own = s.ring.own := by
  rw [laneReset_ring, (resynced_signals _).own]
  have cleared : (resetRing (resetBlocks s).ring).own = s.ring.own := by
    rw [resetBlocks_ring]
    rfl
  exact (grantRing_own _).trans cleared

/-! ## The intake (R182) -/

/-- Serving an ask leaves the asks behind it, or with LANE RESET none. -/
theorem serveAsk_intake (a : IntakeAsk) (s : State) :
    (serveAsk a s).ring.intake = if isLaneReset a then [] else s.ring.intake := by
  unfold serveAsk
  split
  · exact laneReset_intake _ s
  · exact (joinParts_intake _ _ _ _ _ _).trans (serve_intake a.code a.args (setReserved (partsNeeded a s) s))

/-- An ask that has room for its whole answer keeps the invariant: the places kept while it is served are those its parts take. -/
theorem serveAsk_holds {a : IntakeAsk} {s : State} (h : RingHolds 0 s.ring) (room : partsNeeded a s ≤ freeAnswerPlaces s) :
    RingHolds 0 (serveAsk a s).ring := by
  unfold serveAsk
  split
  · exact laneReset_holds _ h
  · next other =>
    have needs : (answerParts (serve a.code a.args (setReserved (partsNeeded a s) s)).data).length = partsNeeded a s := by
      have parts : partsNeeded a s = (answerParts (serve a.code a.args s).data).length := if_neg other
      rw [parts]
      exact answerParts_length_congr ((serve_form a.code a.args).length_withRing _ s)
    have fits : s.ring.answers.length + partsNeeded a s ≤ answerCapacity := by
      have full := h.1.answers
      simp only [freeAnswerPlaces, h.1.reserved] at room
      omega
    have served := serve_holds a.code a.args (setReserved_holds h fits)
    refine joinParts_holds _ _ _ _ _ _ (setReserved_zero_holds served) ?_
    rw [needs]
    exact served.1.answers

theorem popIntake_holds {s : State} (h : RingHolds 0 s.ring) : RingHolds 0 (popIntake s).ring :=
  have shorter : (s.ring.intake.drop 1).length ≤ intakeCapacity := by
    rw [List.length_drop]
    exact (Nat.sub_le _ 1).trans h.1.intake
  ⟨⟨h.1.forward, h.1.orders, h.1.answers, shorter, h.1.waiting, h.1.places, h.1.reserved⟩, h.2⟩

/-- What every ask that the room lets be served keeps, serving the intake keeps. -/
theorem serveAsks_induction {P : State → Prop}
    (serves : ∀ s a rest, s.ring.intake = a :: rest → partsNeeded a (popIntake s) ≤ freeAnswerPlaces s → P s →
      P (serveAsk a (popIntake s))) (fuel : Nat) : ∀ s, P s → P (serveAsks fuel s) := by
  induction fuel with
  | zero => exact fun _ h => h
  | succ fuel ih =>
    intro s h
    unfold serveAsks
    split
    · exact h
    · next a rest e =>
      split
      · next room => exact ih _ (serves s a rest e room h)
      · exact h

theorem serveIntake_holds {s : State} (h : RingHolds 0 s.ring) : RingHolds 0 (serveIntake s).ring :=
  serveAsks_induction (P := fun s => RingHolds 0 s.ring)
    (fun _ _ _ _ room k => serveAsk_holds (popIntake_holds k) room) _ s h

theorem takeAsk_holds {s : State} (h : RingHolds 0 s.ring) (src : Station) (code : Byte) (args : List Byte) :
    RingHolds 0 (takeAsk src code args s).ring := by
  unfold takeAsk
  split
  · exact (Signals.counters _ s).holds h
  · next room =>
    have joined : RingHolds 0 (s.withRing { s.ring with intake := s.ring.intake ++ [⟨src, code, args⟩] }).ring :=
      ⟨⟨h.1.forward, h.1.orders, h.1.answers, by simpa using room, h.1.waiting, h.1.places, h.1.reserved⟩, h.2⟩
    dsimp only
    split
    · exact serveIntake_holds joined
    · exact joined

/-! ## What a step can be -/

/-- Every command but those of RSTn, completions and expiries is the reception of a frame or of a bad frame. -/
inductive Happens (s : State) : Instr → State → Prop where
  | frame {c f} (stands : c.frameOf = some f) : Happens s c (receive f s)
  | badFrame (bs) : Happens s (.badFrame bs) (discardBadFrame s)
  | powerOnReset (k) : Happens s (.powerOnReset k) (assertReset k s)
  | evaluationCompletion : Happens s .evaluationCompletion (completeEvaluation s)
  | sendingCompletion : Happens s .sendingCompletion (completeSending s)
  | restartTimerExpiry (h) : Happens s (.restartTimerExpiry h) (restartExpiry h s)
  | faultWindowExpiry (h) : Happens s (.faultWindowExpiry h) (windowExpiry h s)
  | purgeTimeout (h) : Happens s (.purgeTimeout h) (purgeExpiry h s)
  | secondEvent : Happens s .secondEvent (secondEventAt s)
  | resetRelease : Happens s .resetRelease (releaseReset s)

theorem exec_happens {c : Instr} {s t : State} (h : exec c s = .next t) : Happens s c t := by
  cases hf : c.frameOf with
  | some f =>
    rw [commandsAreFrames c f s hf] at h
    cases h
    exact .frame hf
  | none =>
    cases c
    case badFrame bs =>
      rw [execBadFrame_of_bad hf] at h
      cases h
      exact .badFrame bs
    case powerOnReset k => cases h; exact .powerOnReset k
    case evaluationCompletion => cases h; exact .evaluationCompletion
    case sendingCompletion => cases h; exact .sendingCompletion
    case restartTimerExpiry k => cases h; exact .restartTimerExpiry k
    case faultWindowExpiry k => cases h; exact .faultWindowExpiry k
    case purgeTimeout k => cases h; exact .purgeTimeout k
    case secondEvent => cases h; exact .secondEvent
    case resetRelease => cases h; exact .resetRelease
    all_goals cases hf

/-- A step is a TBASE period or the command at the front of the queue. -/
theorem step_cases {s t : State} (h : step s = .next t) :
    (s.pending = [] ∧ t = timebaseTick s)
    ∨ ∃ c rest, s.pending = c :: rest ∧ Happens (s.withPending rest) c t := by
  unfold step at h
  split at h
  · next e =>
    cases h
    exact .inl ⟨e, rfl⟩
  · next c rest e => exact .inr ⟨c, rest, e, exec_happens h⟩

/-- What the reception of a frame can be: a discard, a removal, a forwarding, or its taking, after a forwarding or without one. -/
theorem receive_cases (f : Frame) (s : State) :
    receive f s = discardBadFrame s ∨ receive f s = s ∨ receive f s = forwardFrame f s ∨ receive f s = takeFrame f s
      ∨ receive f s = takeFrame f (forwardFrame f s) := by
  unfold receive routeFrame
  split
  · simp
  split
  · simp
  split
  · simp
  split <;> simp

theorem takeFrame_cases (f : Frame) (s : State) :
    takeFrame f s = countUnknownKind s
    ∨ ∃ m, messageOf f.kind f.payload = some m ∧ takeFrame f s = takeMessage (station f.src) m s := by
  unfold takeFrame
  cases messageOf f.kind f.payload with
  | none => exact .inl rfl
  | some m => exact .inr ⟨m, rfl, rfl⟩

/-! ## The ring port's invariant through a step -/

theorem discardBadFrame_signals (s : State) : Signals s (discardBadFrame s) :=
  (Signals.counters _ s).trans (setFlag_signals _ _)

theorem forwardFrame_holds {s : State} (h : RingHolds 0 s.ring) (f : Frame) : RingHolds 0 (forwardFrame f s).ring := by
  unfold forwardFrame
  split
  · next room => exact joinForward_holds h f room
  · exact ((Signals.counters _ s).trans (setFlag_signals _ _)).holds h

/-- A message other than an ask reaches the ring port by signals alone. -/
theorem takeMessage_signals (src : Station) (m : Message) (s : State) (other : ∀ code args, m ≠ .ask code args) :
    Signals s (takeMessage src m s) := by
  cases m with
  | tick x => exact takePosition_signals s x
  | leadEdge x => exact (takePosition_signals s x).trans (leadEdgeAt_signals _ x)
  | trailEdge x => exact (takePosition_signals s x).trans (trailEdgeAt_signals _ x)
  | line h x w => exact (takePosition_signals s x).trans (.ofFrame (takeLine_frame _ h x w) rfl)
  | arrive n x => exact arriveReport_signals s n x
  | swept n => exact sweptReport_signals s n
  | headfault h t => exact headfaultReport_signals s h t
  | purgedone h o => exact purgedoneReport_signals s h o
  | ask code args => exact absurd rfl (other code args)

theorem takeMessage_holds {s : State} (h : RingHolds 0 s.ring) (src : Station) (m : Message) :
    RingHolds 0 (takeMessage src m s).ring := by
  cases m with
  | ask code args => exact takeAsk_holds h src code args
  | _ => exact (takeMessage_signals src _ s (by simp)).holds h

theorem takeFrame_holds {s : State} (h : RingHolds 0 s.ring) (f : Frame) : RingHolds 0 (takeFrame f s).ring := by
  rcases takeFrame_cases f s with e | ⟨m, -, e⟩ <;> rw [e]
  · exact (countUnknownKind_signals s).holds h
  · exact takeMessage_holds h _ m

theorem receive_holds {s : State} (h : RingHolds 0 s.ring) (f : Frame) : RingHolds 0 (receive f s).ring := by
  rcases receive_cases f s with e | e | e | e | e <;> rw [e]
  · exact (discardBadFrame_signals s).holds h
  · exact h
  · exact forwardFrame_holds h f
  · exact takeFrame_holds h f
  · exact takeFrame_holds (forwardFrame_holds h f) f

theorem completeSending_holds {s : State} (h : RingHolds 0 s.ring) : RingHolds 0 (completeSending s).ring := by
  unfold completeSending
  split
  · have granted : RingHolds 0 (grant (s.withRing { s.ring with sending := none })).ring :=
      grantRing_holds (r := { s.ring with sending := none })
        ⟨h.1.forward, h.1.orders, h.1.answers, h.1.intake, h.1.waiting, h.1.places, h.1.reserved⟩
    unfold grantNext
    split
    · exact serveIntake_holds granted
    · exact granted
  · exact h

/-- Settles O54. The invariant is carried with the number of places kept for an answer being formed. -/
theorem ringInvariantKept : Obligations.RingInvariantKept := by
  intro s t invariant stepped
  rw [ringInvariant_iff] at invariant ⊢
  rcases step_cases stepped with ⟨-, rfl⟩ | ⟨c, rest, -, happens⟩
  · exact (timebaseTick_signals s).holds invariant
  have start : RingHolds 0 (s.withPending rest).ring := invariant
  cases happens with
  | frame _ => exact receive_holds start _
  | badFrame _ => exact (discardBadFrame_signals _).holds start
  | powerOnReset k => exact (ringInvariant_iff _).mp (by simp [assertReset, State.powerOn, RingPort.reset, ringInvariant])
  | evaluationCompletion => exact (completeEvaluation_signals _).holds start
  | sendingCompletion => exact completeSending_holds start
  | restartTimerExpiry h => exact (restartExpiry_signals _ h).holds start
  | faultWindowExpiry h => exact (windowExpiry_signals _ h).holds start
  | purgeTimeout h => exact (purgeExpiry_signals _ h).holds start
  | secondEvent => exact start
  | resetRelease =>
    have same : (releaseReset (s.withPending rest)).ring = (s.withPending rest).ring := by
      unfold releaseReset
      split <;> rfl
    rwa [same]

end Sys2Proof.Machine
end

section
/-! SUPPORT. The principle behind the statements about every step: what each kind of event keeps, every step keeps. -/

namespace Sys2Proof.Machine

/-- The frame at the front of the queue of commands says m. -/
def saidAtFront (s : State) (m : Message) : Prop :=
  ∃ c rest f, s.pending = c :: rest ∧ c.frameOf = some f ∧ messageOf f.kind f.payload = some m

/-- The events of a step from `start`, each keeping P; the asks that it may serve have a code that `asked` admits. -/
structure StepKeeps (start : State) (asked : Byte → Prop) (P : State → Prop) : Prop where
  ring : ∀ s r, r.own = s.ring.own → P s → P (s.withRing r)
  pending : ∀ s l, P s → P (s.withPending l)
  flag : ∀ s f, P s → P (setFlag f s)
  message : ∀ src m s, saidAtFront start m → (∀ code args, m ≠ .ask code args) → P s → P (takeMessage src m s)
  serve : ∀ code args s, asked code → P s → P (serve code args s).state
  laneReset : ∀ src s, P s → P (laneReset src s)
  powerOn : ∀ k rest, start.pending = .powerOnReset k :: rest → P (assertReset k (start.withPending rest))
  period : ∀ s, P s → P (timebaseTick s)
  evaluation : ∀ s, P s → P (completeEvaluation s)
  restart : ∀ h s, P s → P (restartExpiry h s)
  window : ∀ h s, P s → P (windowExpiry h s)
  purge : ∀ h s, P s → P (purgeExpiry h s)
  second : ∀ s, P s → P (secondEventAt s)
  release : ∀ s, P s → P (releaseReset s)

namespace StepKeeps

variable {start : State} {asked : Byte → Prop} {P : State → Prop} (k : StepKeeps start asked P)

/-- P with an intake whose asks all have an admitted code. -/
def withIntake (asked : Byte → Prop) (P : State → Prop) (s : State) : Prop := P s ∧ ∀ a ∈ s.ring.intake, asked a.code

include k

theorem joinParts (dest : Station) (code : Byte) (status : Status) (ds : List (List Byte)) :
    ∀ n s, P s → P (joinParts dest code status n ds s) := by
  have joins : ∀ a s, P s → P (joinAnswer a s) := fun a s h => k.ring _ _ (grantRing_own _) (k.ring s _ rfl h)
  induction ds with
  | nil => exact fun _ _ h => h
  | cons d ds ih =>
    intro n s h
    cases ds with
    | nil => exact joins _ s h
    | cons e es => exact ih _ _ (joins _ s h)

theorem serveAsk {a : IntakeAsk} (admitted : asked a.code) {s : State} (h : P s) : P (serveAsk a s) := by
  unfold Machine.serveAsk
  split
  · exact k.laneReset _ s h
  · exact k.joinParts _ _ _ _ _ _ (k.ring _ _ rfl (k.serve _ _ _ admitted (k.ring s _ rfl h)))

theorem serveIntake {s : State} (h : withIntake asked P s) : withIntake asked P (serveIntake s) := by
  refine serveAsks_induction (P := withIntake asked P) ?_ _ s h
  rintro s a rest e - ⟨hp, hi⟩
  rw [e] at hi
  have popped : (popIntake s).ring.intake = rest := by simp [popIntake, e]
  refine ⟨k.serveAsk (hi a (by simp)) (k.ring s _ rfl hp), fun b hb => hi b ?_⟩
  rw [serveAsk_intake, popped] at hb
  split at hb
  · cases hb
  · exact List.mem_cons_of_mem a hb

theorem takeAsk {s : State} (h : withIntake asked P s) (src : Station) {code : Byte} (admitted : asked code)
    (args : List Byte) : withIntake asked P (takeAsk src code args s) := by
  obtain ⟨hp, hi⟩ := h
  unfold Machine.takeAsk
  split
  · exact ⟨k.ring s _ rfl hp, hi⟩
  · have joined : withIntake asked P (s.withRing { s.ring with intake := s.ring.intake ++ [⟨src, code, args⟩] }) := by
      refine ⟨k.ring s _ rfl hp, fun a ha => ?_⟩
      rcases List.mem_append.mp ha with ha | ha
      · exact hi a ha
      · rw [List.mem_singleton.mp ha]
        exact admitted
    dsimp only
    split
    · exact k.serveIntake joined
    · exact joined

theorem signalsFlag {s : State} (f : LinkCounters → LinkCounters) (g : ConditionFlag) (h : withIntake asked P s) :
    withIntake asked P (setFlag g (modifyCounters f s)) :=
  ⟨k.flag _ g (k.ring s _ rfl h.1), fun a ha => h.2 a (by rwa [(setFlag_signals _ g).intake] at ha)⟩

theorem forwardFrame {s : State} (h : withIntake asked P s) (f : Frame) : withIntake asked P (forwardFrame f s) := by
  unfold Machine.forwardFrame
  split
  · refine ⟨k.ring _ _ (grantRing_own _) (k.ring s _ rfl h.1), fun a ha => h.2 a ?_⟩
    have same : (joinForward f s).ring.intake = s.ring.intake := grantRing_intake _
    rwa [same] at ha
  · exact k.signalsFlag _ _ h

theorem takeMessage (front : ∀ code args, saidAtFront start (.ask code args) → asked code) {s : State}
    (h : withIntake asked P s) (src : Station) {m : Message} (said : saidAtFront start m) :
    P (takeMessage src m s) := by
  cases m with
  | ask code args => exact (k.takeAsk h src (front code args said) args).1
  | _ => exact k.message src _ s said (by simp) h.1

/-- Every step keeps P. -/
theorem step (intake : ∀ a ∈ start.ring.intake, asked a.code)
    (front : ∀ code args, saidAtFront start (.ask code args) → asked code) {t : State} (stepped : step start = .next t)
    (h : P start) : P t := by
  rcases step_cases stepped with ⟨-, rfl⟩ | ⟨c, rest, atFront, happens⟩
  · exact k.period start h
  have begin : withIntake asked P (start.withPending rest) := ⟨k.pending start rest h, intake⟩
  cases happens with
  | @frame _ f stands =>
    have takes : ∀ {s}, withIntake asked P s → P (takeFrame f s) := by
      intro s hs
      rcases takeFrame_cases f s with e | ⟨m, says_, e⟩ <;> rw [e]
      · exact k.ring s _ rfl hs.1
      · exact k.takeMessage front hs _ ⟨c, rest, f, atFront, stands, says_⟩
    rcases receive_cases f (start.withPending rest) with e | e | e | e | e <;> rw [e]
    · exact (k.signalsFlag _ _ begin).1
    · exact begin.1
    · exact (k.forwardFrame begin f).1
    · exact takes begin
    · exact takes (k.forwardFrame begin f)
  | badFrame _ => exact (k.signalsFlag _ _ begin).1
  | powerOnReset n => exact k.powerOn n rest atFront
  | evaluationCompletion => exact k.evaluation _ begin.1
  | sendingCompletion =>
    unfold completeSending grantNext
    have granted : withIntake asked P (grant ((start.withPending rest).withRing
        { (start.withPending rest).ring with sending := none })) := by
      refine ⟨k.ring _ _ (grantRing_own _) (k.ring _ _ rfl begin.1), fun a ha => begin.2 a ?_⟩
      rwa [grant_intake] at ha
    split
    · split
      · exact (k.serveIntake granted).1
      · exact granted.1
    · exact begin.1
  | restartTimerExpiry n => exact k.restart n _ begin.1
  | faultWindowExpiry n => exact k.window n _ begin.1
  | purgeTimeout n => exact k.purge n _ begin.1
  | secondEvent => exact k.second _ begin.1
  | resetRelease => exact k.release _ begin.1

omit k in
/-- Every step keeps P, where every ask may be served. -/
theorem stepAny (k : StepKeeps start (fun _ => True) P) {t : State} (stepped : Machine.step start = .next t) (h : P start) :
    P t := k.step (fun _ _ => trivial) (fun _ _ _ => trivial) stepped h

end StepKeeps

/-! ## The machine's step -/

/-- Settles O1. -/
theorem stepRunsFrontCommand : Obligations.StepRunsFrontCommand := by
  refine ⟨fun c rest s h => ?_, fun s => ?_⟩
  · simp [step, h]
  · unfold step
    split
    · exact ⟨_, rfl⟩
    · next c rest _ => cases c <;> exact ⟨_, rfl⟩

/-! ## Events of things not in progress -/

/-- Settles O6. -/
theorem nothingInProgress : Obligations.NothingInProgress := by
  intro s
  refine ⟨fun h => ?_, fun h => ?_, fun h => ?_, fun k => ⟨fun h => ?_, fun h => ?_, fun h => ?_⟩⟩ <;>
    refine congrArg Host.Outcome.next ?_
  · simp [completeSending, h]
  · simp [completeEvaluation, h]
  · simp [releaseReset, h]
  · have stopped : s.heads[(k : Nat)].restart = none := h
    exact if_neg (by simp [stopped])
  · have same : updateAt s.heads k (fun k => { k with faultWindow := none }) = s.heads := by
      refine Vector.ext fun i hi => ?_
      rw [updateAt_getElem]
      split
      · next e => subst e; rw [← h]; rfl
      · rfl
    rw [windowExpiry, modifyHead, same]
    rfl
  · exact if_neg h

/-! ## Frames sorted (R176) -/

section
variable {f : Frame} {s : State}

theorem receive_fits (fits : f.payload.length ≤ maxPayload) : receive f s = routeFrame f (takeFrame f) s :=
  if_neg (Nat.not_lt.mpr fits)

theorem receive_own (fits : f.payload.length ≤ maxPayload) (own : station f.src = s.ring.own) : receive f s = s := by
  rw [receive_fits fits, routeFrame, if_pos own]

theorem receive_taken (fits : f.payload.length ≤ maxPayload) (src : station f.src ≠ s.ring.own)
    (dest : station f.dest = s.ring.own) : receive f s = takeFrame f s := by
  rw [receive_fits fits, routeFrame, if_neg src, if_pos dest]

theorem receive_broadcast (fits : f.payload.length ≤ maxPayload) (src : station f.src ≠ s.ring.own)
    (dest : station f.dest = 31) (own : s.ring.own ≠ 31) : receive f s = takeFrame f (forwardFrame f s) := by
  have other : station f.dest ≠ s.ring.own := fun e => own (e.symm.trans dest)
  rw [receive_fits fits, routeFrame, if_neg src, if_neg other]
  exact if_pos dest

theorem receive_forwarded (fits : f.payload.length ≤ maxPayload) (src : station f.src ≠ s.ring.own)
    (dest : station f.dest ≠ s.ring.own) (single : station f.dest ≠ 31) : receive f s = forwardFrame f s := by
  rw [receive_fits fits, routeFrame, if_neg src, if_neg dest]
  exact if_neg single

end

/-- Settles O11. -/
theorem framesSorted : Obligations.FramesSorted := fun _ _ fits =>
  ⟨fun b => by simp [station], receive_own fits, receive_taken fits, receive_broadcast fits, receive_forwarded fits⟩

/-- Settles O13. -/
theorem unknownKindDiscarded : Obligations.UnknownKindDiscarded := by
  intro f s fits src unknown
  have counts : ∀ u, takeFrame f u = countUnknownKind u := by
    intro u
    rw [takeFrame, unknown]
  exact ⟨fun dest => congrArg Host.Outcome.next ((receive_taken fits src dest).trans (counts s)),
    fun dest own => congrArg Host.Outcome.next ((receive_broadcast fits src dest own).trans (counts _))⟩

/-! ## Joining at an idle output (R179) -/

section
variable {s : State}

/-- An idle output whose port meets its invariant has nothing queued and nothing waiting. -/
theorem idle_ring (idle : s.ring.sending = none) (h : ringInvariant s.ring) :
    s.ring.orders = [] ∧ s.ring.forward = [] ∧ s.ring.answers = [] ∧ s.ring.waiting = [] := by
  have holds := (ringInvariant_iff _).mp h
  obtain ⟨ho, hf, ha⟩ := holds.2 idle
  exact ⟨ho, hf, ha, holds.waiting_nil (by rw [ho]; decide)⟩

theorem joinOrder_idle (idle : s.ring.sending = none) (orders : s.ring.orders = []) (waiting : s.ring.waiting = [])
    (o : OrderFrame) :
    joinOrder o s = s.withRing { s.ring with sending := some (orderFrame s.ring.own o) } := by
  have granted : grantRing { s.ring with orders := s.ring.orders ++ [o] }
      = { s.ring with sending := some (orderFrame s.ring.own o) } := by
    rw [grantRing, if_neg (by simp [idle]), if_pos (by simp),
      grantOrder_cons (r := { s.ring with orders := s.ring.orders ++ [o] }) (o := o) (os := []) (by simp [orders]) waiting]
    simp [orders]
  exact congrArg s.withRing granted

theorem joinAnswer_idle (idle : s.ring.sending = none) (orders : s.ring.orders = []) (forward : s.ring.forward = [])
    (answers : s.ring.answers = []) (a : Reply) :
    joinAnswer a s = s.withRing { s.ring with sending := some (replyFrame s.ring.own a), turn := .forward } := by
  have granted : grantRing { s.ring with answers := s.ring.answers ++ [a] }
      = { s.ring with sending := some (replyFrame s.ring.own a), turn := .forward } := by
    rw [grantRing, if_neg (by simp [idle]), if_neg (by simp [orders]), if_neg (by simp [forward]),
      grantAnswer_cons (r := { s.ring with answers := s.ring.answers ++ [a] }) (a := a) (as := []) (by simp [answers])]
    simp [answers]
  exact congrArg s.withRing granted

theorem joinForward_idle (idle : s.ring.sending = none) (orders : s.ring.orders = []) (forward : s.ring.forward = [])
    (answers : s.ring.answers = []) (f : Frame) :
    joinForward f s = s.withRing { s.ring with sending := some f, turn := .answer } := by
  have granted : grantRing { s.ring with forward := s.ring.forward ++ [f] }
      = { s.ring with sending := some f, turn := .answer } := by
    rw [grantRing, if_neg (by simp [idle]), if_neg (by simp [orders]), if_pos (by simp [answers]),
      grantForward_cons (r := { s.ring with forward := s.ring.forward ++ [f] }) (f := f) (fs := []) (by simp [forward])]
    simp [forward]
  exact congrArg s.withRing granted

end

/-- Settles O12. -/
theorem forwardedAndOwnFrames : Obligations.ForwardedAndOwnFrames := by
  intro f s fits
  refine ⟨fun own => congrArg Host.Outcome.next (receive_own fits own), fun src dest single => ?_⟩
  have forwards : exec (.forwardedFrame f) s = .next (forwardFrame f s) :=
    congrArg Host.Outcome.next (receive_forwarded fits src dest single)
  refine ⟨fun room sends => ?_, fun idle holds => ?_, fun full => ?_⟩ <;> rw [forwards] <;> refine congrArg Host.Outcome.next ?_
  · exact (if_pos room).trans (joinForward_sending sends f)
  · obtain ⟨ho, hf, ha, -⟩ := idle_ring idle holds
    exact (if_pos (by rw [hf]; decide)).trans (joinForward_idle idle ho hf ha f)
  · exact if_neg (Nat.not_lt.mpr full)

/-! ## Waiting places (R180) -/

theorem takePlace_new (p : WaitPlace) (o : OrderFrame) (ws : List Waiting) (free : ∀ w ∈ ws, w.place ≠ p) :
    takePlace p o ws = ws ++ [⟨p, o⟩] := by
  induction ws with
  | nil => rfl
  | cons w ws ih =>
    rw [takePlace, if_neg (free w (by simp)), ih fun x hx => free x (by simp [hx])]
    rfl

theorem takePlace_replaces (p : WaitPlace) (o old : OrderFrame) (before after : List Waiting)
    (free : ∀ w ∈ before, w.place ≠ p) :
    takePlace p o (before ++ ⟨p, old⟩ :: after) = before ++ ⟨p, o⟩ :: after := by
  induction before with
  | nil => simp [takePlace]
  | cons w ws ih =>
    rw [List.cons_append, takePlace, if_neg (free w (by simp)), ih fun x hx => free x (by simp [hx])]
    rfl

theorem issueOrder_room {p : WaitPlace} {o : OrderFrame} {s : State} (room : s.ring.orders.length < orderCapacity) :
    issueOrder p o s = joinOrder o s := if_pos room

theorem issueOrder_full {p : WaitPlace} {o : OrderFrame} {s : State} (full : orderCapacity ≤ s.ring.orders.length) :
    issueOrder p o s = s.withRing { s.ring with waiting := takePlace p o s.ring.waiting } := if_neg (Nat.not_lt.mpr full)

/-- Settles O14. -/
theorem joiningAQueue : Obligations.JoiningAQueue := by
  refine ⟨fun o a f s => ⟨fun sends => ⟨joinOrder_sending sends o, joinAnswer_sending sends a, joinForward_sending sends f⟩,
    fun idle holds => ?_⟩, fun p o s => ⟨issueOrder_room, fun full free => ?_, fun before old after full waiting free => ?_⟩⟩
  · obtain ⟨ho, hf, ha, hw⟩ := idle_ring idle holds
    exact ⟨joinOrder_idle idle ho hw o, joinAnswer_idle idle ho hf ha a, joinForward_idle idle ho hf ha f⟩
  · rw [issueOrder_full full, takePlace_new p o _ free]
    rfl
  · rw [issueOrder_full full, waiting, takePlace_replaces p o old before after free]
    rfl

/-! ## The end of a sending (R179, R182) -/

section
variable {s : State} (sends : s.ring.sending.isSome = true)
include sends

theorem completeSending_eq : completeSending s = grantNext (s.withRing { s.ring with sending := none }) := if_pos sends

/-- A grant from another queue than that of the answers serves no ask. -/
theorem completeSending_of_answers_kept {r : RingPort} (granted : grantRing { s.ring with sending := none } = r)
    (kept : r.answers = s.ring.answers) : completeSending s = s.withRing r := by
  subst granted
  rw [completeSending_eq sends]
  exact if_neg (Nat.not_lt.mpr (congrArg List.length kept).ge)

end

/-- Settles O15, by the queue that the grant takes its frame from. -/
theorem sendingCompletionGrants : Obligations.SendingCompletionGrants := by
  intro s sends
  have ungranted : ¬ ({ s.ring with sending := none } : RingPort).sending.isSome = true := by simp
  refine ⟨fun o os ho hw => ?_, fun o os w ws ho hw => ?_, fun f fs ho hf ha => ?_, fun a rest ho ha hf => ?_,
    fun ho hf ha => ?_⟩ <;> refine congrArg Host.Outcome.next ?_
  · exact completeSending_of_answers_kept sends
      (by rw [grantRing, if_neg ungranted, if_pos (by simp [ho]), grantOrder_cons (r := { s.ring with sending := none }) ho hw]) rfl
  · exact completeSending_of_answers_kept sends
      (by rw [grantRing, if_neg ungranted, if_pos (by simp [ho]), grantOrder_cons_waiting (r := { s.ring with sending := none }) ho hw]) rfl
  · exact completeSending_of_answers_kept sends
      (by rw [grantRing, if_neg ungranted, if_neg (by simp [ho]), if_pos ⟨by simp [hf], ha⟩, grantForward_cons (r := { s.ring with sending := none }) hf]) rfl
  · have notForward : ¬ (s.ring.forward ≠ [] ∧ (s.ring.answers = [] ∨ s.ring.turn = .forward)) := by
      rcases hf with hf | hf <;> simp [hf, ha]
    have granted : grantRing { s.ring with sending := none }
        = { s.ring with answers := rest, sending := some (replyFrame s.ring.own a), turn := .forward } := by
      rw [grantRing, if_neg ungranted, if_neg (by simp [ho]), if_neg notForward, grantAnswer_cons (r := { s.ring with sending := none }) ha]
    have state : grant (s.withRing { s.ring with sending := none })
        = s.withRing { s.ring with answers := rest, sending := some (replyFrame s.ring.own a), turn := .forward } :=
      congrArg s.withRing granted
    rw [completeSending_eq sends, grantNext, state]
    exact if_pos (by simp [ha])
  · refine completeSending_of_answers_kept sends (r := { s.ring with sending := none }) ?_ rfl
    rw [grantRing, if_neg ungranted, if_neg (by simp [ho]), if_neg (by simp [hf]), grantAnswer]
    split
    · rfl
    · next e => simp [ha] at e

/-! ## Flags raised (R186, R188) -/

theorem flagNumber_injective {f g : ConditionFlag} (h : flagNumber f = flagNumber g) : f = g := by
  have number : ∀ f : ConditionFlag, ([.late, .lost, .stray, .forced, .noprint, .printfail, .headfault, .headlatch, .stackfull,
      .residuefull, .trackfull, .edgefault, .scangap, .clockinvalid, .forbidden, .loaderr, .tallywrap, .linkerr, .fwddrop,
      .noticedrop] : List ConditionFlag)[flagNumber f]? = some f := by
    intro f
    cases f <;> rfl
  exact Option.some.inj ((number f).symm.trans ((congrArg _ h).trans (number g)))

theorem flagBit_getLsbD_flagNumber (f g : ConditionFlag) : (flagBit f).getLsbD (flagNumber g) = decide (g = f) := by
  have same : (flagNumber f = flagNumber g) = (g = f) :=
    propext ⟨fun h => (flagNumber_injective h).symm, fun h => by rw [h]⟩
  rw [flagBit, BitVec.getLsbD_ofNat, Nat.testBit_two_pow]
  simp [flagNumber_lt, same]

theorem flagSet_markFlag (f g : ConditionFlag) (s : State) :
    flagSet (markFlag f s) g = (flagSet s g || decide (g = f)) := by
  simp [flagSet, markFlag_flags, flagBit_getLsbD_flagNumber]

/-- Settles O16. -/
theorem flagRaising : Obligations.FlagRaising := by
  intro f s
  have notSet : flagSet s f = false → ∀ t, setFlag f s = t ↔ (if flagMasked s f || decide (f = .noticedrop) then markFlag f s
      else sendNotice (.alert (noticeStation s) f) (markFlag f s)) = t := fun clear t => by simp [setFlag, clear]
  refine ⟨rfl, fun set => if_pos set, fun clear masked => ?_, fun clear unmasked other room => ?_,
    fun clear unmasked other full => ?_, fun g => flagSet_markFlag f g s, rfl, markFlag_frame s f,
    fun cause => ⟨fun room => if_neg (Nat.pos_iff_ne_zero.mp room), fun full => if_pos full⟩⟩
  · exact (notSet clear _).mpr (if_pos (by rcases masked with h | h <;> simp [h]))
  · exact (notSet clear _).mpr ((if_neg (by simp [unmasked, other])).trans (if_neg (Nat.pos_iff_ne_zero.mp room)))
  · exact (notSet clear _).mpr ((if_neg (by simp [unmasked, other])).trans (if_pos full))

/-! ## The intake (R182) -/

theorem askPayload_fits (code : Byte) {args : List Byte} (fits : args.length ≤ maxArgs) :
    (messagePayload (.ask code args)).length ≤ maxPayload := by
  simp only [messagePayload, List.length_cons, maxPayload, maxArgs] at fits ⊢
  omega

/-- An ask frame that the part takes is handed to the intake. -/
theorem exec_ask_taken {dest src : Byte} {code : Byte} {args : List Byte} {s : State} (addressed : addressedToPart dest src s)
    (fits : args.length ≤ maxArgs) : exec (.ask dest src code args) s = .next (takeAsk (station src) code args s) :=
  congrArg Host.Outcome.next (deliver_taken addressed (askPayload_fits code fits))

theorem serveAsks_of_empty {s : State} (empty : s.ring.intake = []) (fuel : Nat) : serveAsks fuel s = s := by
  cases fuel with
  | zero => rfl
  | succ n => simp [serveAsks, empty]

theorem serveIntake_cons {s : State} {a : IntakeAsk} {rest : List IntakeAsk} (h : s.ring.intake = a :: rest) :
    serveIntake s = if partsNeeded a (popIntake s) ≤ freeAnswerPlaces s then serveIntake (serveAsk a (popIntake s)) else s := by
  have served : serveIntake s
      = if partsNeeded a (popIntake s) ≤ freeAnswerPlaces s then serveAsks rest.length (serveAsk a (popIntake s)) else s := by
    simp [serveIntake, serveAsks, h]
  have behind : (popIntake s).ring.intake = rest := by simp [popIntake, h]
  rw [served]
  split
  · have left := serveAsk_intake a (popIntake s)
    rw [behind] at left
    split at left
    · rw [serveAsks_of_empty left, serveIntake, serveAsks_of_empty left]
    · rw [serveIntake, left]
  · rfl

/-- Settles O17. -/
theorem askIntake : Obligations.AskIntake := by
  refine ⟨fun dest src code args s addressed fits => ?_, fun s => ⟨fun a => ?_, fun empty => serveAsks_of_empty empty _, ?_⟩⟩
  · rw [exec_ask_taken addressed fits]
    refine ⟨fun full => ?_, fun waiting room => ?_, fun empty room => ?_, fun empty short => ?_⟩ <;>
      refine congrArg Host.Outcome.next ?_
    · exact if_pos full
    · exact (if_neg (Nat.not_le.mpr room)).trans (if_neg waiting)
    · exact takeAsk_served empty room
    · have popped := popIntake_withRing_single empty ⟨station src, code, args⟩
      have joined : takeAsk (station src) code args s
          = serveIntake (s.withRing { s.ring with intake := [⟨station src, code, args⟩] }) := by
        simp [takeAsk, empty, intakeCapacity]
      rw [joined, serveIntake_cons (a := ⟨station src, code, args⟩) (rest := []) rfl, popped]
      exact if_neg (Nat.not_le.mpr short)
  · simp [partsNeeded, isLaneReset]
  · rintro a rest h u rfl
    have popped : popIntake s = s.withRing { s.ring with intake := rest } := by simp [popIntake, h]
    rw [serveIntake_cons h, popped]
    exact ⟨fun short => if_neg (Nat.not_le.mpr short), fun room => if_pos room⟩

/-- Settles O19. -/
theorem refusedAsks : Obligations.RefusedAsks := by
  refine ⟨askCodes_iff, fun dest src code args s unknown fits atOnce => ?_, fun dest src code args s fits atOnce wrong => ?_⟩
  all_goals
    refine congrArg Host.Outcome.next (deliver_ask_onePart atOnce (askPayload_fits code fits)
      ?_ (fun n => ?_) atOnce.2.2.1 (by simp))
  · refine decide_eq_false fun reset => unknown ?_
    obtain ⟨rfl, -⟩ : code = 0x05 ∧ args = [] := reset
    decide
  · exact serve_unknown unknown args _
  · refine decide_eq_false fun reset => ?_
    obtain ⟨rfl, rfl⟩ : code = 0x05 ∧ args = [] := reset
    simp at wrong
  · exact serve_badLength _ wrong

/-! ## The own station and the belt (R1, R3, R176) -/

/-- The positions that a positioned message carries. -/
def positionOf : Message → Option Pos
  | .tick x => some x
  | .leadEdge x => some x
  | .trailEdge x => some x
  | .line _ x _ => some x
  | _ => none

theorem takePosition_belt (x : Pos) (s : State) :
    (takePosition x s).position.belt = s.position.belt ∨ (takePosition x s).position.belt = x := by
  unfold takePosition
  split
  · refine .inr ?_
    rw [ownersAdvance_frame _ .position (by decide)]
    rfl
  · exact .inl rfl

/-- A message moves the belt to its own position or leaves it. -/
theorem takeMessage_belt (src : Station) (m : Message) (s : State) (other : ∀ code args, m ≠ .ask code args) :
    (takeMessage src m s).position.belt = s.position.belt
      ∨ positionOf m = some (takeMessage src m s).position.belt := by
  have moved : ∀ {x : Pos} {t : State}, t.position = (takePosition x s).position →
      t.position.belt = s.position.belt ∨ some x = some t.position.belt := by
    intro x t h
    rw [h]
    exact (takePosition_belt x s).imp_right fun e => by rw [e]
  cases m with
  | tick x => exact moved rfl
  | leadEdge x => exact moved (leadEdgeAt_frame _ x .position (by decide))
  | trailEdge x => exact moved (trailEdgeAt_frame _ x .position (by decide))
  | line h x w => exact moved rfl
  | arrive n x => exact .inl (congrArg _ (arriveReport_frame s n x .position (by decide)))
  | swept n => exact .inl (congrArg _ (sweptReport_frame s n .position (by decide)))
  | headfault h t => exact .inl (congrArg _ (headfaultReport_frame s h t .position (by decide)))
  | purgedone h o => exact .inl (congrArg _ (purgedoneReport_frame s h o .position (by decide)))
  | ask code args => exact absurd rfl (other code args)

theorem commitEffects_belt (t : TableId) (s : State) : (commitEffects t s).position.belt = s.position.belt := by
  cases t with
  | stacker => exact (congrArg PositionUnit.belt (recomputeLamps_frame (formDistances .stacker s) .position (by decide))).trans rfl
  | lamp => exact congrArg PositionUnit.belt (reissueLamps_frame s .position (by decide))
  | _ => rfl

/-- No ask moves the belt. -/
theorem serve_belt (code : Byte) (args : List Byte) (s : State) :
    (serve code args s).state.position.belt = s.position.belt := by
  have form := serve_form code args
  generalize serve code args = f at form ⊢
  cases form with
  | tableCommit a b =>
    unfold serveTableCommit
    split
    · rfl
    · split
      · rfl
      split
      · exact congrArg PositionUnit.belt (abortLoad_frame s .position (by decide))
      split
      · exact congrArg PositionUnit.belt (abortLoad_frame s .position (by decide))
      split
      · exact congrArg PositionUnit.belt (abortLoad_frame s .position (by decide))
      split
      · exact congrArg PositionUnit.belt (abortLoad_frame s .position (by decide))
      · exact commitEffects_belt _ _
  | badLength | unknown | identify | echo | clockRead | flagsRead | linkStatus | tableAbort | flagsClear | maskSet | trackRead
    | trackReadFrom => rfl
  | mode => exact congrArg PositionUnit.belt (serveMode_frame s _ _ .position (by decide))
  | tableOpen => exact congrArg PositionUnit.belt (serveTableOpen_frame s _ _ _ .position (by decide))
  | tableRow => exact congrArg PositionUnit.belt (serveTableRow_frame s _ .position (by decide))
  | tableRead => exact congrArg PositionUnit.belt (serveTableRead_frame s _ _ .position (by decide))
  | protect => exact congrArg PositionUnit.belt (serveProtect_frame s _ .position (by decide))
  | tallyFreeze => exact congrArg PositionUnit.belt (serveTallyFreeze_frame s _ .position (by decide))
  | tallyRead => exact congrArg PositionUnit.belt (serveTallyRead_frame s _ _ .position (by decide))
  | clockSet => exact congrArg PositionUnit.belt (serveClockSet_frame s _ _ _ _ _ _ _ .position (by decide))
  | headControl => exact congrArg PositionUnit.belt (serveHeadControl_frame s _ _ .position (by decide))
  | stackerSweep => exact congrArg PositionUnit.belt (serveStackerSweep_frame s _ .position (by decide))

/-- What O59 says of the state that follows: the own station is kept, and the belt is where it was or where the front frame says. -/
def stationAndBelt (s t : State) : Prop :=
  t.ring.own = s.ring.own
    ∧ (t.position.belt = s.position.belt ∨ ∃ m, saidAtFront s m ∧ positionOf m = some t.position.belt)

theorem stationAndBelt_keeps (s : State) (notReset : ¬atPowerOnReset s) :
    StepKeeps s (fun _ => True) (stationAndBelt s) := by
  have kept : ∀ {t u : State}, u.ring.own = t.ring.own → u.position.belt = t.position.belt → stationAndBelt s t →
      stationAndBelt s u := by
    rintro t u own belt ⟨h, k⟩
    exact ⟨own.trans h, by rwa [belt]⟩
  refine ⟨fun t r h => kept h rfl, fun t l => kept rfl rfl,
    fun t f => kept (setFlag_signals t f).own (congrArg _ (setFlag_frame t f .position (by decide))),
    fun src m t said other ⟨h, k⟩ => ⟨(takeMessage_signals src m t other).own.trans h, ?_⟩,
    fun code args t _ => kept (serve_own code args t) (serve_belt code args t),
    fun src t => kept (laneReset_own src t) (congrArg _ (laneReset_frame t src .position (by decide))),
    fun k rest e => absurd ⟨k, rest, e⟩ notReset,
    fun t => kept (timebaseTick_signals t).own (congrArg _ (timebaseTick_frame t .position (by decide))),
    fun t => kept (completeEvaluation_signals t).own (congrArg _ (completeEvaluation_frame t .position (by decide))),
    fun h t => kept (restartExpiry_signals t h).own (congrArg _ (restartExpiry_frame t h .position (by decide))),
    fun h t => kept (windowExpiry_signals t h).own (congrArg _ (windowExpiry_frame t h .position (by decide))),
    fun h t => kept (purgeExpiry_signals t h).own (congrArg _ (purgeExpiry_frame t h .position (by decide))),
    fun t => kept rfl rfl, fun t => kept ?_ ?_⟩
  · rcases takeMessage_belt src m t other with e | e
    · rwa [e]
    · exact .inr ⟨m, said, e⟩
  · unfold releaseReset; split <;> rfl
  · unfold releaseReset; split <;> rfl

/-- Settles O59. -/
theorem stationAndBeltKept : Obligations.StationAndBeltKept := by
  intro s t stepped notReset
  obtain ⟨own, belt⟩ := (stationAndBelt_keeps s notReset).stepAny stepped ⟨rfl, .inl rfl⟩
  refine ⟨own, belt.imp_right ?_⟩
  rintro ⟨m, ⟨c, rest, f, pending, stands, said⟩, x⟩
  refine ⟨c, f, rest, pending, stands, ?_⟩
  cases m with
  | tick y => cases x; exact .inl said
  | leadEdge y => cases x; exact .inr (.inl said)
  | trailEdge y => cases x; exact .inr (.inr (.inl said))
  | line h y w => cases x; exact .inr (.inr (.inr ⟨h, w, said⟩))
  | _ => cases x

end Sys2Proof.Machine
end

section
/-! SUPPORT. Which blocks an ask and a taken message may change, and what every step keeps of the clock, of the condition unit and of
the table store (chapters 7, 10 and 11). -/

namespace Sys2Proof.Machine

/-! ## The blocks that an event may change -/

/-- The blocks that the service of an ask may change, by the ask's code (R182, R191). -/
def askWrites (code : Byte) : List Block :=
  if code = 0x03 then [.ring]
  else if code = 0x04 then [.track, .scan, .eval, .routing, .heads, .stackers, .tally, .cond, .ring]
  else if code = 0x06 ∨ code = 0x09 ∨ code = 0x0A ∨ code = 0x0B then [.store]
  else if code = 0x07 then [.store, .cond, .ring]
  else if code = 0x08 then [.position, .stackers, .store, .cond, .ring]
  else if code = 0x0C ∨ code = 0x0D then [.tally]
  else if code = 0x0E then [.clock]
  else if code = 0x11 ∨ code = 0x12 then [.cond]
  else if code = 0x13 then [.track, .heads, .tally, .cond, .ring]
  else if code = 0x14 then [.stackers, .cond, .ring]
  else if code = 0x15 then [.track]
  else []

theorem ServiceForm.writes {code : Byte} {args : List Byte} {f : State → Served} (form : ServiceForm code args f) (s : State) :
    changesOnly (askWrites code) s (f s).state := by
  cases form with
  | badLength | unknown | identify | echo | clockRead | flagsRead => exact changesOnly.refl _ s
  | linkStatus => exact serveLinkStatus_frame s
  | mode t es => exact serveMode_frame s t es
  | tableOpen t f n => exact serveTableOpen_frame s t f n
  | tableRow => exact serveTableRow_frame s _
  | tableCommit => exact serveTableCommit_frame s _
  | tableAbort => exact serveTableAbort_frame s
  | tableRead => exact serveTableRead_frame s _ _
  | protect => exact serveProtect_frame s _
  | tallyFreeze => exact serveTallyFreeze_frame s _
  | tallyRead => exact serveTallyRead_frame s _ _
  | clockSet => exact serveClockSet_frame s _ _ _ _ _ _ _
  | flagsClear => exact serveFlagsClear_frame s _
  | maskSet => exact serveMaskSet_frame s _
  | headControl => exact serveHeadControl_frame s _ _
  | stackerSweep => exact serveStackerSweep_frame s _
  | trackRead | trackReadFrom => exact serveTrackRead_frame s _

theorem serve_writes (code : Byte) (args : List Byte) (s : State) :
    changesOnly (askWrites code) s (serve code args s).state := (serve_form code args).writes s

/-- The blocks that a message other than an ask may change. -/
def messageBlocks : List Block :=
  [.position, .track, .scan, .eval, .routing, .heads, .stackers, .tally, .cond, .ring, .choices]

theorem takeMessage_writes (src : Station) (m : Message) (s : State) (other : ∀ code args, m ≠ .ask code args) :
    changesOnly messageBlocks s (takeMessage src m s) := by
  cases m with
  | tick x => exact (takePosition_frame s x).mono rfl
  | leadEdge x => exact (leadEdgeAt_frame _ x).chain ((takePosition_frame s x).mono rfl) rfl
  | trailEdge x => exact (trailEdgeAt_frame _ x).chain ((takePosition_frame s x).mono rfl) rfl
  | line h x w => exact (takeLine_frame _ h x w).chain ((takePosition_frame s x).mono rfl) rfl
  | arrive n x => exact (arriveReport_frame s n x).mono rfl
  | swept n => exact (sweptReport_frame s n).mono rfl
  | headfault h t => exact (headfaultReport_frame s h t).mono rfl
  | purgedone h o => exact (purgedoneReport_frame s h o).mono rfl
  | ask code args => exact absurd rfl (other code args)

/-! ## The clock (R116 to R121) -/

section
variable {c : Clock}

/-- The clock's date is one of the calendar. -/
def goodDate (d : Date) : Prop :=
  d.year ≤ 99 ∧ 1 ≤ d.month ∧ d.month ≤ 12 ∧ 1 ≤ d.day ∧ d.day ≤ monthLength d.year d.month

theorem monthLength_pos (y m : Nat) : 1 ≤ monthLength y m := by
  unfold monthLength
  repeat' split
  all_goals decide

theorem goodDate_nextDay {d : Date} (h : goodDate d) : goodDate (nextDay d) := by
  obtain ⟨hy, hm, hm', hd, -⟩ := h
  unfold nextDay
  split
  · next within => exact ⟨hy, hm, hm', Nat.le_succ_of_le hd, within⟩
  split
  · next within => exact ⟨hy, Nat.le_succ_of_le hm, within, le_rfl, monthLength_pos _ _⟩
  split
  · next within => exact ⟨within, le_rfl, Nat.le_of_ble_eq_true rfl, le_rfl, monthLength_pos _ _⟩
  · exact ⟨by decide, by decide, by decide, by decide, by decide⟩

theorem clockInvariant_carryDay (h : clockInvariant c) : clockInvariant (carryDay c) := by
  obtain ⟨hy, hm, hm', hd, hd', hh, hmi, hs, hw, hw', hp⟩ := h
  obtain ⟨ky, km, km', kd, kd'⟩ := goodDate_nextDay (d := dateOf c) ⟨hy, hm, hm', hd, hd'⟩
  have week : 1 ≤ nextDayOfWeek c.dayOfWeek ∧ nextDayOfWeek c.dayOfWeek ≤ 7 := by
    unfold nextDayOfWeek
    split <;> omega
  exact ⟨ky, km, km', kd, kd', hh, hmi, hs, week.1, week.2, hp⟩

theorem clockInvariant_carryHour (h : clockInvariant c) : clockInvariant (carryHour c) := by
  unfold carryHour
  obtain ⟨hy, hm, hm', hd, hd', hh, rest⟩ := h
  split
  · exact clockInvariant_carryDay ⟨hy, hm, hm', hd, hd', Nat.zero_le _, rest⟩
  · exact ⟨hy, hm, hm', hd, hd', by dsimp only; omega, rest⟩

theorem clockInvariant_carryMinute (h : clockInvariant c) : clockInvariant (carryMinute c) := by
  unfold carryMinute
  obtain ⟨hy, hm, hm', hd, hd', hh, hmi, rest⟩ := h
  split
  · exact clockInvariant_carryHour ⟨hy, hm, hm', hd, hd', hh, Nat.zero_le _, rest⟩
  · exact ⟨hy, hm, hm', hd, hd', hh, by dsimp only; omega, rest⟩

theorem clockInvariant_advanceSecond (h : clockInvariant c) : clockInvariant (advanceSecond c) := by
  unfold advanceSecond
  obtain ⟨hy, hm, hm', hd, hd', hh, hmi, hs, rest⟩ := h
  split
  · exact clockInvariant_carryMinute ⟨hy, hm, hm', hd, hd', hh, hmi, Nat.zero_le _, rest⟩
  · exact ⟨hy, hm, hm', hd, hd', hh, hmi, by dsimp only; omega, rest⟩

theorem clockInvariant_withPhase (h : clockInvariant c) {n : Nat} (small : n < secondPeriods) :
    clockInvariant { c with phase := n } := by
  obtain ⟨hy, hm, hm', hd, hd', hh, hmi, hs, hw, hw', -⟩ := h
  exact ⟨hy, hm, hm', hd, hd', hh, hmi, hs, hw, hw', small⟩

theorem clockInvariant_secondTick {s : State} (h : clockInvariant s.clock) : clockInvariant (secondTick s).clock := by
  unfold secondTick
  split
  · next small => exact clockInvariant_withPhase h small
  · exact clockInvariant_withPhase (clockInvariant_advanceSecond h) (by decide)

theorem timebaseTick_clock (s : State) :
    (timebaseTick s).clock = s.clock ∨ (timebaseTick s).clock = (secondTick s).clock := by
  unfold timebaseTick
  split
  · exact .inl rfl
  · right
    have same : (millisecondTick s).clock = s.clock := millisecondTick_frame s .clock (by decide)
    simp only [secondTick, secondEventAt, same]
    split <;> rfl

theorem clockInvariant_of_clockSet {y m d h mi se w : Nat} (passes : clockSetFailure y m d h mi se w = 0) :
    clockInvariant ⟨y, m, d, h, mi, se, w, true, 0⟩ := by
  unfold clockSetFailure at passes
  repeat' split at passes
  any_goals omega
  refine ⟨?_, ?_, ?_, ?_, ?_, ?_, ?_, ?_, ?_, ?_, Nat.le_of_ble_eq_true rfl⟩ <;> dsimp only <;> omega

end

theorem clockInvariant_serve (code : Byte) (args : List Byte) (s : State) (h : clockInvariant s.clock) :
    clockInvariant (serve code args s).state.clock := by
  by_cases written : Block.clock ∈ askWrites code
  · have form := serve_form code args
    generalize serve code args = f at form ⊢
    cases form with
    | badLength | unknown => exact h
    | clockSet =>
      unfold serveClockSet
      dsimp only
      split
      · next passes => exact clockInvariant_of_clockSet passes
      · exact h
    | _ => exact absurd written (by decide)
  · rwa [serve_writes code args s .clock written]

theorem releaseReset_clock (s : State) :
    (releaseReset s).clock = s.clock ∨ (releaseReset s).clock = { s.clock with phase := 0 } := by
  unfold releaseReset
  split
  · exact .inr rfl
  · exact .inl rfl

theorem clockInvariant_reset : clockInvariant .reset :=
  ⟨by decide, by decide, by decide, by decide, by decide, by decide, by decide, by decide, by decide, by decide, by decide⟩

theorem clockInvariant_keeps (start : State) : StepKeeps start (fun _ => True) fun s => clockInvariant s.clock where
  ring _ _ _ h := h
  pending _ _ h := h
  flag s f h := by rwa [setFlag_frame s f .clock (by decide)]
  message src m s _ other h := by rwa [takeMessage_writes src m s other .clock (by decide)]
  serve code args s _ := clockInvariant_serve code args s
  laneReset src s h := by rwa [laneReset_frame s src .clock (by decide)]
  powerOn _ _ _ := clockInvariant_reset
  period s h := by
    rcases timebaseTick_clock s with e | e <;> rw [e]
    · exact h
    · exact clockInvariant_secondTick h
  evaluation s h := by rwa [completeEvaluation_frame s .clock (by decide)]
  restart k s h := by rwa [restartExpiry_frame s k .clock (by decide)]
  window k s h := by rwa [windowExpiry_frame s k .clock (by decide)]
  purge k s h := by rwa [purgeExpiry_frame s k .clock (by decide)]
  second s h := clockInvariant_withPhase (clockInvariant_advanceSecond h) (by decide)
  release s h := by
    rcases releaseReset_clock s with e | e <;> rw [e]
    · exact h
    · exact clockInvariant_withPhase h (by decide)

/-! ## CLOCKINVALID (R120, R187) -/

theorem advanceSecond_valid (c : Clock) : (advanceSecond c).valid = c.valid := by
  unfold advanceSecond carryMinute carryHour carryDay
  repeat' split
  all_goals rfl

/-- What reads the clock's indicator and the flags alone, and only gains flags, keeps CLOCKINVALID. -/
theorem clockFlagInvariant_of {s t : State} (valid : t.clock.valid = s.clock.valid)
    (flags : flagSet s .clockinvalid = true → flagSet t .clockinvalid = true) (h : clockFlagInvariant s) :
    clockFlagInvariant t := fun invalid => flags (h (valid ▸ invalid))

theorem clockFlagInvariant_serve (code : Byte) (args : List Byte) (s : State) (h : clockFlagInvariant s) :
    clockFlagInvariant (serve code args s).state := by
  by_cases written : Block.clock ∈ askWrites code ∨ Block.cond ∈ askWrites code
  · have form := serve_form code args
    generalize serve code args = f at form ⊢
    cases form with
    | badLength | unknown => exact h
    | clockSet =>
      unfold serveClockSet
      dsimp only
      split
      · exact fun invalid => absurd invalid (by simp)
      · exact h
    | flagsClear a b c =>
      intro invalid
      have kept := clearedFlags_getLsbD s.cond s.clock.valid (le24 a b c) .clockinvalid
      have isInvalid : s.clock.valid = false := invalid
      have isSet : s.cond.flags.getLsbD (flagNumber .clockinvalid) = true := h isInvalid
      exact kept.trans (by simp [isSet, isInvalid])
    | maskSet => exact h
    | mode => exact clockFlagInvariant_of (congrArg _ (serveMode_frame s _ _ .clock (by decide))) (serveMode_signals s _ _).flags h
    | tableRow => exact clockFlagInvariant_of (congrArg _ (serveTableRow_frame s _ .clock (by decide))) (serveTableRow_signals s _).flags h
    | tableCommit =>
      exact clockFlagInvariant_of (congrArg _ (serveTableCommit_frame s _ .clock (by decide))) (serveTableCommit_signals s _).flags h
    | headControl =>
      exact clockFlagInvariant_of (congrArg _ (serveHeadControl_frame s _ _ .clock (by decide))) (serveHeadControl_signals s _ _).flags h
    | stackerSweep =>
      exact clockFlagInvariant_of (congrArg _ (serveStackerSweep_frame s _ .clock (by decide))) (serveStackerSweep_signals s _).flags h
    | _ => exact absurd written (by decide)
  · obtain ⟨clock, cond⟩ := not_or.mp written
    have sameFlags : (serve code args s).state.cond = s.cond := serve_writes code args s .cond cond
    exact clockFlagInvariant_of (congrArg _ (serve_writes code args s .clock clock))
      (fun isSet => by rwa [flagSet, sameFlags]) h

theorem laneReset_cond (src : Station) (s : State) : (laneReset src s).cond = resetFlags s.cond := by
  have resynced : (resynced (resetAnswered src s)).cond = (resetAnswered src s).cond :=
    changesOnly.foldl resyncLamp_frame _ _ .cond (by decide)
  have answered : (resetAnswered src s).cond = (resetBlocks s).cond :=
    joinAnswer_frame _ _ .cond (by decide)
  have blocks : (resetBlocks s).cond = s.cond := resetBlocks_frame s .cond (by decide)
  rw [laneReset_eq, State.withCond_cond, resynced, answered, blocks]

theorem laneReset_flagSet (src : Station) (s : State) (f : ConditionFlag) :
    flagSet (laneReset src s) f = (flagSet s f && decide (f = .clockinvalid)) := by
  have bits : (s.cond.flags &&& flagBit .clockinvalid).getLsbD (flagNumber f)
      = (flagSet s f && decide (f = .clockinvalid)) := by
    rw [BitVec.getLsbD_and, flagBit_clockinvalid_getLsbD]
    rfl
  rw [flagSet, laneReset_cond]
  exact bits

theorem takeMessage_flags (src : Station) {m : Message} (s : State) (other : ∀ code args, m ≠ .ask code args)
    (h : clockFlagInvariant s) : clockFlagInvariant (takeMessage src m s) :=
  clockFlagInvariant_of (congrArg _ (takeMessage_writes src m s other .clock (by decide)))
    (takeMessage_signals src m s other).flags h

theorem clockFlagInvariant_keeps (start : State) : StepKeeps start (fun _ => True) clockFlagInvariant where
  ring _ _ _ h := h
  pending _ _ h := h
  flag s f := clockFlagInvariant_of (congrArg _ (setFlag_frame s f .clock (by decide))) (setFlag_signals s f).flags
  message src _ s _ other := takeMessage_flags src s other
  serve code args s _ := clockFlagInvariant_serve code args s
  laneReset src s := clockFlagInvariant_of (congrArg _ (laneReset_frame s src .clock (by decide)))
    fun isSet => by rw [laneReset_flagSet, isSet]; rfl
  powerOn _ _ _ := fun _ => (by decide : ConditionUnit.reset.flags.getLsbD 13 = true)
  period s h := by
    refine clockFlagInvariant_of ?_ (timebaseTick_signals s).flags h
    rcases timebaseTick_clock s with e | e <;> rw [e]
    unfold secondTick
    split
    · rfl
    · exact advanceSecond_valid _
  evaluation s := clockFlagInvariant_of (congrArg _ (completeEvaluation_frame s .clock (by decide)))
    (completeEvaluation_signals s).flags
  restart k s := clockFlagInvariant_of (congrArg _ (restartExpiry_frame s k .clock (by decide))) (restartExpiry_signals s k).flags
  window k s := clockFlagInvariant_of (congrArg _ (windowExpiry_frame s k .clock (by decide))) (windowExpiry_signals s k).flags
  purge k s := clockFlagInvariant_of (congrArg _ (purgeExpiry_frame s k .clock (by decide))) (purgeExpiry_signals s k).flags
  second s := clockFlagInvariant_of (advanceSecond_valid _) fun isSet => isSet
  release s h := by
    have cond : (releaseReset s).cond = s.cond := by unfold releaseReset; split <;> rfl
    refine clockFlagInvariant_of ?_ (fun isSet => by rwa [flagSet, cond]) h
    rcases releaseReset_clock s with e | e <;> rw [e]

/-! ## The table store: what a step that writes it may do (R159 to R164, R167) -/

/-- The rows of a commit's table change, no other. -/
theorem tableRow_overlay_of_ne (ts : Tables) (l : Load) {u : TableId} (other : u ≠ l.table) (i : Nat) :
    tableRow (overlay ts l) u i = tableRow ts u i := by
  obtain ⟨t, first, declared, rows, sum⟩ := l
  cases t <;> cases u
  all_goals first | exact absurd rfl other | simp only [overlay, tableRow]

theorem commitLoad_store (l : Load) (s : State) :
    (commitLoad l s).store = { s.store with
      tables := overlay s.store.tables l
      committed := s.store.committed.set (tableNumber l.table).val true (tableNumber l.table).isLt
      load := none } := commitEffects_frame _ _ .store (by decide)

theorem abortLoad_store (s : State) : (abortLoad s).store = { s.store with load := none } :=
  setFlag_frame _ _ .store (by decide)

/-- A store after an ask: unchanged but for cursor, load, a protection and a commit that passed its tests. -/
inductive StoreChange (s : State) : TableStore → Prop where
  | load {l : Option Load} (fits : loadInvariant s.store → ∀ x, l = some x →
      1 ≤ x.declared ∧ x.first + x.declared ≤ rowCount x.table ∧ x.rows.length ≤ x.declared) :
      StoreChange s { s.store with load := l }
  | cursor (t r) : StoreChange s { s.store with cursorTable := t, cursorRow := r }
  | protect (set) : s.store.chanceUsed = false → StoreChange s { s.store with protectedSet := set, chanceUsed := true }
  | commit (l : Load) : s.store.load = some l → isProtected s.store l.table = false →
      firstBadRow s (overlay s.store.tables l) l.table = none →
      StoreChange s { s.store with
        tables := overlay s.store.tables l
        committed := s.store.committed.set (tableNumber l.table).val true (tableNumber l.table).isLt
        load := none }

namespace StoreChange
variable {s : State}

theorem none : StoreChange s { s.store with load := none } := .load fun _ _ h => by cases h

theorem same : StoreChange s s.store := .load (l := s.store.load) fun h => h

end StoreChange

theorem serveTableOpen_store (t f n : Byte) (s : State) : StoreChange s (serveTableOpen t f n s).state.store := by
  unfold serveTableOpen
  split
  · exact .same
  split
  · exact .same
  split
  · exact .same
  · next fits =>
    refine .load fun _ x e => ?_
    cases e
    exact ⟨Nat.succ_pos _, by dsimp only; omega, Nat.zero_le _⟩

theorem serveTableRow_store (row : List Byte) (s : State) : StoreChange s (serveTableRow row s).state.store := by
  unfold serveTableRow
  split
  · exact .same
  · next l open_ =>
    split
    · exact .same
    split
    · rw [abortLoad_store]; exact .none
    · next notFull =>
      refine .load fun h x e => ?_
      cases e
      obtain ⟨declared, inTable, few⟩ := h l open_
      refine ⟨declared, inTable, ?_⟩
      simp only [receivedCount] at notFull
      simp only [List.length_append, List.length_singleton]
      omega

theorem serveTableCommit_store (sum : BitVec 16) (s : State) : StoreChange s (serveTableCommit sum s).state.store := by
  unfold serveTableCommit
  split
  · exact .same
  · next l open_ =>
    split
    · exact .same
    split
    · rw [abortLoad_store]; exact .none
    next free =>
    split
    · rw [abortLoad_store]; exact .none
    split
    · rw [abortLoad_store]; exact .none
    split
    · rw [abortLoad_store]; exact .none
    · next good =>
      rw [commitLoad_store]
      exact .commit l open_ (by simpa using free) good

theorem serveTableRead_store (k : Byte) (position : Option (Byte × Byte)) (s : State) :
    StoreChange s (serveTableRead k position s).state.store := by
  have reads : ∀ t r, StoreChange s (tableReadFrom k.toNat t r s).state.store := by
    intro t r
    unfold tableReadFrom
    split
    · exact .same
    · exact .cursor t _
  unfold serveTableRead
  split
  · exact reads _ _
  · split
    · exact .same
    · exact reads _ _

theorem serveProtect_store (ids : List Byte) (s : State) : StoreChange s (serveProtect ids s).state.store := by
  unfold serveProtect
  split
  · exact .same
  split
  · exact .same
  · next unused => exact .protect _ (by simpa using unused)

theorem serve_store (code : Byte) (args : List Byte) (s : State) : StoreChange s (serve code args s).state.store := by
  by_cases written : Block.store ∈ askWrites code
  · have form := serve_form code args
    generalize serve code args = f at form ⊢
    cases form with
    | badLength | unknown => exact .same
    | tableOpen => exact serveTableOpen_store _ _ _ s
    | tableRow => exact serveTableRow_store _ s
    | tableCommit => exact serveTableCommit_store _ s
    | tableAbort => exact .none
    | tableRead => exact serveTableRead_store _ _ s
    | protect => exact serveProtect_store _ s
    | _ => exact absurd written (by decide)
  · rw [serve_writes code args s .store written]
    exact .same

/-- A lane reset ends the load and leaves the rest of the store. -/
theorem laneReset_store (src : Station) (s : State) : (laneReset src s).store = { s.store with load := none } := by
  have resynced : (resynced (resetAnswered src s)).store = (resetAnswered src s).store :=
    changesOnly.foldl resyncLamp_frame _ _ .store (by decide)
  have answered : (resetAnswered src s).store = (resetBlocks s).store := joinAnswer_frame _ _ .store (by decide)
  have blocks : (resetBlocks s).store = { s.store with load := none } := by
    have abandoned : (abandonLetters countQuiet s).store = s.store := abandonLettersQuiet_frame s .store (by decide)
    exact congrArg (fun st : TableStore => { st with load := none }) abandoned
  rw [laneReset_eq, State.withCond_store, resynced, answered, blocks]

/-- What every change of the store keeps, every step keeps; a power-on reset gives the store its power-on values. -/
theorem store_keeps {start : State} {P : TableStore → Prop}
    (change : ∀ {s : State} {st : TableStore}, StoreChange s st → P s.store → P st)
    (reset : atPowerOnReset start → P .reset) : StepKeeps start (fun _ => True) fun s => P s.store where
  ring _ _ _ h := h
  pending _ _ h := h
  flag s f h := by rwa [setFlag_frame s f .store (by decide)]
  message src m s _ other h := by rwa [takeMessage_writes src m s other .store (by decide)]
  serve code args s _ := change (serve_store code args s)
  laneReset src s h := by
    rw [laneReset_store]
    exact change .none h
  powerOn k rest e := reset ⟨k, rest, e⟩
  period s h := by rwa [timebaseTick_frame s .store (by decide)]
  evaluation s h := by rwa [completeEvaluation_frame s .store (by decide)]
  restart k s h := by rwa [restartExpiry_frame s k .store (by decide)]
  window k s h := by rwa [windowExpiry_frame s k .store (by decide)]
  purge k s h := by rwa [purgeExpiry_frame s k .store (by decide)]
  second _ h := h
  release s h := by
    have same : (releaseReset s).store = s.store := by unfold releaseReset; split <;> rfl
    rwa [same]

/-! ## Validated rows and the fit of the load (R77, R157, R160) -/

theorem firstBadRow_none {s : State} {ts : Tables} {t : TableId} (h : firstBadRow s ts t = none) {i : Nat} (inTable : i < rowCount t) :
    goodRow s ts t i = true := by
  simpa using List.find?_eq_none.mp h i (List.mem_range.mpr inTable)

/-- Every row of ROUTING in some tables passes its validation. -/
def goodRoutingRows (ts : Tables) : Prop := ∀ i, i < 48 → goodRouting (rowInForce ts i) = true

theorem goodRoutingRows_change {s : State} {st : TableStore} (change : StoreChange s st)
    (h : goodRoutingRows s.store.tables) : goodRoutingRows st.tables := by
  cases change with
  | load | cursor | protect => exact h
  | commit l _ _ good =>
    intro i hi
    by_cases routing : l.table = .routing
    · rw [routing] at good
      exact firstBadRow_none good hi
    · have same : rowInForce (overlay s.store.tables l) i = rowInForce s.store.tables i :=
        congrArg routingRow (tableRow_overlay_of_ne _ l (fun e => routing e.symm) i)
      exact (congrArg goodRouting same).trans (h i hi)

theorem goodRoutingRows_zero : goodRoutingRows .zero := by
  intro i hi
  have zero : tableRow .zero .routing i = 0 := by simp [tableRow, Tables.zero, hi]
  rw [rowInForce, zero]
  decide

theorem loadInvariant_change {s : State} {st : TableStore} (change : StoreChange s st) (h : loadInvariant s.store) :
    loadInvariant st := by
  cases change with
  | load fits => exact fits h
  | cursor | protect => exact h
  | commit => exact fun _ e => by cases e

theorem loadInvariant_reset : loadInvariant .reset := fun _ e => by cases e

/-! ## Protection (R167) -/

/-- From the store a to the store b no committed indicator is lost, and with the chance used in a the protected set, the chance and every
protected row stand. -/
def guarded (a b : TableStore) : Prop :=
  (a.chanceUsed = true → b.chanceUsed = true ∧ b.protectedSet = a.protectedSet
    ∧ ∀ u i, isProtected a u = true → tableRow b.tables u i = tableRow a.tables u i)
  ∧ ∀ u, isCommitted a u = true → isCommitted b u = true

theorem guarded.trans {a b c : TableStore} (h : guarded a b) (k : guarded b c) : guarded a c := by
  refine ⟨fun used => ?_, fun u was => k.2 u (h.2 u was)⟩
  obtain ⟨used', set, rows⟩ := h.1 used
  obtain ⟨used'', set', rows'⟩ := k.1 used'
  refine ⟨used'', set'.trans set, fun u i was => (rows' u i ?_).trans (rows u i was)⟩
  rwa [isProtected, set]

theorem isCommitted_set (st : TableStore) (t u : TableId) (was : isCommitted st u = true) :
    (st.committed.set (tableNumber t).val true (tableNumber t).isLt)[tableNumber u] = true := by
  have get := updateAt_get st.committed (tableNumber t) (tableNumber u) fun _ => true
  refine Eq.trans get ?_
  split
  · rfl
  · exact was

theorem guarded_change {s : State} {st : TableStore} (change : StoreChange s st) : guarded s.store st := by
  cases change with
  | load | cursor => exact ⟨fun used => ⟨used, rfl, fun _ _ _ => rfl⟩, fun _ was => was⟩
  | protect _ unused => exact ⟨fun used => by simp [unused] at used, fun _ was => was⟩
  | commit l _ free _ =>
    refine ⟨fun used => ⟨used, rfl, fun u i was => tableRow_overlay_of_ne _ l ?_ i⟩, fun u => isCommitted_set s.store l.table u⟩
    rintro rfl
    rw [free] at was
    cases was

/-- Settles O57. -/
theorem protectedRowsKept : Obligations.ProtectedRowsKept := by
  intro s t stepped notReset
  have keeps : StepKeeps s (fun _ => True) fun u => guarded s.store u.store :=
    store_keeps (fun change h => h.trans (guarded_change change)) fun atReset => absurd atReset notReset
  exact keeps.stepAny stepped ⟨fun used => ⟨used, rfl, fun _ _ _ => rfl⟩, fun _ was => was⟩

end Sys2Proof.Machine
end

section
/-! SUPPORT. What every step keeps of the scan unit, the gate plan and the heads, from the parts of an advance up to the step
(chapters 3, 5 and 6). -/

namespace Sys2Proof.Machine

/-! ## The advance of the belt, part by part (R3, R4, R34) -/

section
variable {P : State → Prop}

/-- What the belt's new position and the parts of an advance keep, a position taken keeps. -/
theorem takePosition_keeps (belt : ∀ s x, P s → P (s.withPosition { s.position with belt := x }))
    (choice : ∀ s n, P s → P (s.withChoices n)) (plan : ∀ s, P s → P (retirePlan s))
    (bookings : ∀ s, P s → P (expireBookings s)) (late : ∀ q s, P s → P (testDeadline q s))
    (lost : ∀ q s, P s → P (testWindowEnd q s)) (x : Pos) {s : State} (h : P s) : P (takePosition x s) := by
  have track : ∀ s, P s → P (trackAdvance s) := by
    intro s h
    unfold trackAdvance
    generalize s.track.letters.map Letter.seq = qs
    induction qs generalizing s with
    | nil => exact h
    | cons q qs ih => exact ih _ (lost q _ (late q s h))
  have ordered : ∀ o s, P s → P (inOrder o s) := by
    rintro ⟨r, c⟩ s h
    cases r <;> cases c <;> simp only [inOrder, if_true, if_false, Bool.false_eq_true]
    · exact bookings _ (plan _ (track _ h))
    · exact bookings _ (track _ (plan _ h))
    · exact plan _ (track _ (bookings _ h))
    · exact track _ (bookings _ (plan _ h))
  unfold takePosition
  split
  · unfold ownersAdvance
    split
    · exact ordered _ _ (belt s x h)
    · exact ordered _ _ (choice _ _ (belt s x h))
  · exact h

end

/-! ## The scan unit (R42, R46) -/

theorem scanInvariant_empty {u : ScanUnit} (h : scanInvariant u) : scanInvariant (emptyContext u) :=
  ⟨h.1, Nat.zero_le _, Nat.zero_le _⟩

theorem scanInvariant_open {u : ScanUnit} (h : scanInvariant u) (q : Seq) (x : Pos) : scanInvariant (openContext q x u) :=
  ⟨h.1, Nat.zero_le _, Nat.zero_le _⟩

theorem joinStore_length_le {store : List LinePartial} (h : store.length ≤ storeCapacity) (p : LinePartial) :
    (joinStore store p).length ≤ storeCapacity := by
  unfold joinStore
  split
  · simp only [List.length_append, List.length_drop, List.length_singleton, storeCapacity] at *
    omega
  · simp only [List.length_append, List.length_singleton]
    omega

theorem updateBackgrounds_le {bg : Vector Nat 24} (samples : Vector (BitVec 16) 24) (i : Fin 24) (h : bg[i] ≤ 8184) :
    (updateBackgrounds bg samples)[i] ≤ 8184 := by
  rw [updateBackgrounds_get]
  omega

theorem scanInvariant_scanLine {u : ScanUnit} (k : Scanset) (head : ScanHead) (x : Pos) (samples : Vector (BitVec 16) 24)
    (h : scanInvariant u) : scanInvariant (scanLine k head x samples u) := by
  obtain ⟨bg, f, r⟩ := h
  have background : scanInvariant (backgroundLine head samples u) := by
    cases head <;> simp only [backgroundLine, scanInvariant]
    · exact ⟨fun i => ⟨updateBackgrounds_le samples i (bg i).1, (bg i).2⟩, f, r⟩
    · exact ⟨fun i => ⟨(bg i).1, updateBackgrounds_le samples i (bg i).2⟩, f, r⟩
  unfold scanLine
  split
  · exact background
  split
  · exact background
  split
  · cases head <;> simp only [assignedLine, scanInvariant]
    · exact ⟨bg, joinStore_length_le f _, r⟩
    · exact ⟨bg, f, joinStore_length_le r _⟩
  · exact ⟨bg, f, r⟩

theorem closeLetter_scan (l : Letter) (L : Nat) (edgelost fault : Bool) (s : State) :
    (closeLetter l L edgelost fault s).scan = emptyContext s.scan := by
  have flagged : ∀ (b : Bool) (f : ConditionFlag) (t : State), (if b then setFlag f t else t).scan = t.scan := by
    intro b f t
    cases b
    · rfl
    · exact setFlag_frame t f .scan (by decide)
  unfold closeLetter
  dsimp only
  exact (flagged _ _ _).trans (congrArg emptyContext (flagged _ _ _))

/-- A letter declared late leaves what its state had it in: the scan context, or the evaluation queue (R35). -/
def leaveState (l : Letter) (s : State) : State :=
  match l.state with
  | .opened => setTrailExpected true (closeEdgelost l s)
  | .queued => dropFromQueue l.seq s
  | .evaluating | .routed => s

/-- The late disposition of a letter that is in the track (R35, R88). -/
def giveLate (q : Seq) (s : State) : State :=
  match findLetter s q with
  | none => s
  | some l => lateDisposition l .late s

theorem declareLate_eq (l : Letter) (s : State) : declareLate l s = giveLate l.seq (leaveState l s) := by
  unfold declareLate leaveState giveLate
  cases l.state <;> rfl

theorem giveLate_frame (q : Seq) (s : State) :
    changesOnly [.track, .routing, .stackers, .tally, .cond, .ring] s (giveLate q s) := by
  unfold giveLate
  split
  · exact changesOnly.refl _ s
  · exact lateDisposition_frame s _ _

theorem leaveState_scan (l : Letter) (s : State) :
    (leaveState l s).scan = s.scan ∨ (leaveState l s).scan = emptyContext s.scan := by
  unfold leaveState
  split
  · exact .inr (closeLetter_scan _ _ _ _ s)
  all_goals exact .inl rfl

theorem declareLate_scan (l : Letter) (s : State) :
    (declareLate l s).scan = s.scan ∨ (declareLate l s).scan = emptyContext s.scan := by
  rw [declareLate_eq, giveLate_frame _ _ .scan (by decide)]
  exact leaveState_scan l s

theorem abandonLetters_scan (s : State) : (abandonLetters count s).scan = emptyContext s.scan := by
  have same := changesOnly.foldl abandonLetter_frame s.track.letters (s.withTrack { s.track with
    letters := [], lastTrailing := none, trailExpected := s.track.letters.any fun l => decide (l.state = .opened) }) .scan (by decide)
  exact congrArg emptyContext same

theorem abandonLettersQuiet_scan (s : State) : (abandonLetters countQuiet s).scan = emptyContext s.scan := by
  have same := changesOnly.foldl abandonLetterQuiet_frame s.track.letters (s.withTrack { s.track with
    letters := [], lastTrailing := none, trailExpected := s.track.letters.any fun l => decide (l.state = .opened) }) .scan (by decide)
  exact congrArg emptyContext same

theorem admitLetter_scan (x : Pos) (s : State) :
    (admitLetter x s).scan
      = openContext (freeNumber s.track.letters s.track.letters.length s.track.seqCounter) x s.scan :=
  congrArg (openContext _ x) (count_frame _ _ .scan (by decide))

/-- The letter that a LEAD edge finds OPEN is closed and queued (R31). -/
def closeOpen (s : State) : State :=
  match openLetter s with
  | none => s
  | some l => queueLetter l.seq (closeEdgelost l s)

/-- A LEAD edge on a running lane, once no letter is OPEN: admitted, or refused by a full track (R28 to R30). -/
def takeLead (x : Pos) (s : State) : State := if s.track.letters.length < trackCapacity then admitLetter x s else refuseLead s

theorem leadEdgeAt_running {x : Pos} {s : State} (runs : laneRuns s.track.mode = true) :
    leadEdgeAt x s = takeLead x (setTrailExpected false (closeOpen s)) := if_pos runs

theorem leadEdgeAt_stopped {x : Pos} {s : State} (stands : laneRuns s.track.mode = false) :
    leadEdgeAt x s = setTrailExpected true (count tallyUntracked s) := if_neg (by simp [stands])

theorem scanInvariant_closeOpen {s : State} (h : scanInvariant s.scan) : scanInvariant (closeOpen s).scan := by
  unfold closeOpen
  split
  · exact h
  · rw [queueLetter_frame _ _ .scan (by decide), closeEdgelost, closeLetter_scan]
    exact scanInvariant_empty h

theorem leadEdgeAt_scan (x : Pos) {s : State} (h : scanInvariant s.scan) : scanInvariant (leadEdgeAt x s).scan := by
  cases runs : laneRuns s.track.mode with
  | false => rwa [leadEdgeAt_stopped runs, setTrailExpected_frame _ _ .scan (by decide), count_frame _ _ .scan (by decide)]
  | true =>
    have closed := scanInvariant_closeOpen h
    rw [leadEdgeAt_running runs, takeLead]
    split
    · rw [admitLetter_scan]
      exact scanInvariant_open closed _ _
    · rwa [refuseLead_frame _ .scan (by decide)]

theorem trailEdgeAt_scan (x : Pos) {s : State} (h : scanInvariant s.scan) : scanInvariant (trailEdgeAt x s).scan := by
  unfold trailEdgeAt
  split
  · rw [queueLetter_frame _ _ .scan (by decide), closeLetter_scan]
    exact scanInvariant_empty h
  · rwa [looseTrail_frame _ _ .scan (by decide)]

theorem takePosition_scan (x : Pos) {s : State} (h : scanInvariant s.scan) : scanInvariant (takePosition x s).scan := by
  refine takePosition_keeps (P := fun s => scanInvariant s.scan) (fun _ _ h => h) (fun _ _ h => h) (fun _ h => h) ?_ ?_ ?_ x h
  · intro s h
    rwa [expireBookings_frame s .scan (by decide)]
  · intro q s h
    unfold testDeadline
    split
    · exact h
    · split
      · next l _ _ =>
        rcases declareLate_scan l s with e | e <;> rw [e]
        · exact h
        · exact scanInvariant_empty h
      · exact h
  · intro q s h
    rwa [testWindowEnd_frame s q .scan (by decide)]

theorem takeMessage_scan (src : Station) (m : Message) {s : State} (other : ∀ code args, m ≠ .ask code args)
    (h : scanInvariant s.scan) : scanInvariant (takeMessage src m s).scan := by
  have taken := fun x => takePosition_scan x h
  cases m with
  | tick x => exact taken x
  | leadEdge x => exact leadEdgeAt_scan x (taken x)
  | trailEdge x => exact trailEdgeAt_scan x (taken x)
  | line head x w => exact scanInvariant_scanLine _ head x w (taken x)
  | arrive n x => rwa [takeMessage, arriveReport_frame s n x .scan (by decide)]
  | swept n => rwa [takeMessage, sweptReport_frame s n .scan (by decide)]
  | headfault k t => rwa [takeMessage, headfaultReport_frame s k t .scan (by decide)]
  | purgedone k o => rwa [takeMessage, purgedoneReport_frame s k o .scan (by decide)]
  | ask code args => exact absurd rfl (other code args)

theorem enterStopped_scan (s : State) : (enterStopped s).scan = emptyContext s.scan := by
  rw [enterStopped, setMode_frame _ _ .scan (by decide), emptyBookings_frame _ .scan (by decide),
    recomputeLamps_frame _ .scan (by decide), abandonLetters_scan]

/-- MODE keeps what its flag, an applied mode and an entry of a head list keep. -/
theorem serveMode_keeps {P : State → Prop} (flag : ∀ s, P s → P (setFlag .forbidden s))
    (mode : ∀ m s, jumpForbidden s.track.mode m = false → P s → P (applyMode m s))
    (entry : ∀ e s, P s → P (applyEntry s e)) (target : Byte) (entries : List Byte) {s : State} (h : P s) :
    P (serveMode target entries s).state := by
  have applied : ∀ (es : List HeadEntry) (t : State), P t → P (es.foldl applyEntry t) := by
    intro es
    induction es with
    | nil => exact fun _ h => h
    | cons e es ih => exact fun t h => ih _ (entry e t h)
  unfold serveMode
  split
  · split
    · exact h
    · unfold modeTests
      split
      · exact flag s h
      · next permitted =>
        split
        · exact h
        · exact applied _ _ (mode _ s (Bool.eq_false_of_not_eq_true permitted) h)
  · exact h

theorem applyMode_scan (m : LaneMode) {s : State} (h : scanInvariant s.scan) : scanInvariant (applyMode m s).scan := by
  cases m with
  | stopped =>
    rw [applyMode, enterStopped_scan]
    exact scanInvariant_empty h
  | running => exact h
  | service => exact h
  | draining => rwa [applyMode, drainIfEmpty_frame _ .scan (by decide)]

theorem serve_scan (code : Byte) (args : List Byte) {s : State} (h : scanInvariant s.scan) :
    scanInvariant (serve code args s).state.scan := by
  by_cases written : Block.scan ∈ askWrites code
  · have form := serve_form code args
    generalize serve code args = f at form ⊢
    cases form with
    | badLength | unknown => exact h
    | mode =>
      refine serveMode_keeps (P := fun s => scanInvariant s.scan) (fun s h => ?_) (fun m _ _ => applyMode_scan m) (fun e s h => ?_) _ _ h
      · rwa [setFlag_frame s _ .scan (by decide)]
      · rwa [applyEntry_frame s e .scan (by decide)]
    | _ => exact absurd written (by decide)
  · rwa [serve_writes code args s .scan written]

theorem resetBlocks_scan (s : State) : (resetBlocks s).scan = emptyContext s.scan := abandonLettersQuiet_scan s

theorem laneReset_scan (src : Station) (s : State) : (laneReset src s).scan = emptyContext s.scan := by
  have resynced : (resynced (resetAnswered src s)).scan = (resetAnswered src s).scan :=
    changesOnly.foldl resyncLamp_frame _ _ .scan (by decide)
  have answered : (resetAnswered src s).scan = (resetBlocks s).scan := joinAnswer_frame _ _ .scan (by decide)
  rw [laneReset_eq, State.withCond_scan, resynced, answered, resetBlocks_scan]

theorem releaseReset_frame (s : State) : changesOnly [.clock, .time] s (releaseReset s) := by
  unfold releaseReset
  split
  · exact (withClock_frame _ _).chain ((withTime_frame s _).mono rfl) rfl
  · exact changesOnly.refl _ s

theorem scanInvariant_reset : scanInvariant .reset :=
  ⟨fun i => ⟨by simp [ScanUnit.reset], by simp [ScanUnit.reset]⟩, Nat.zero_le _, Nat.zero_le _⟩

theorem scanInvariant_keeps (start : State) : StepKeeps start (fun _ => True) fun s => scanInvariant s.scan where
  ring _ _ _ h := h
  pending _ _ h := h
  flag s f h := by rwa [setFlag_frame s f .scan (by decide)]
  message src m _ _ other := takeMessage_scan src m other
  serve code args _ _ := serve_scan code args
  laneReset src s h := by
    rw [laneReset_scan]
    exact scanInvariant_empty h
  powerOn _ _ _ := scanInvariant_reset
  period s h := by rwa [timebaseTick_frame s .scan (by decide)]
  evaluation s h := by rwa [completeEvaluation_frame s .scan (by decide)]
  restart k s h := by rwa [restartExpiry_frame s k .scan (by decide)]
  window k s h := by rwa [windowExpiry_frame s k .scan (by decide)]
  purge k s h := by rwa [purgeExpiry_frame s k .scan (by decide)]
  second _ h := h
  release s h := by rwa [releaseReset_frame s .scan (by decide)]

end Sys2Proof.Machine
end

section
/-! SUPPORT. What every step keeps of the gate plan and of the heads: each operation of the cancel unit head by head (R90, R95, R101 to
R113). -/

namespace Sys2Proof.Machine

/-! ## Folds over the heads and the stackers -/

/-- A fold over distinct numbers, each step of which acts on its own entry alone, acts once on each entry named. -/
theorem foldl_at {α : Type} {n : Nat} {f : State → Fin n → State} (read : State → Fin n → α) (g : Fin n → α → α) {I : State → Prop}
    (keeps : ∀ s h, I s → I (f s h)) (acts : ∀ s h j, I s → read (f s h) j = if j = h then g j (read s j) else read s j)
    {hs : List (Fin n)} (nodup : hs.Nodup) {s : State} (i : I s) (j : Fin n) :
    read (hs.foldl f s) j = if j ∈ hs then g j (read s j) else read s j := by
  induction hs generalizing s with
  | nil => simp
  | cons h hs ih =>
    obtain ⟨notIn, nodup'⟩ := List.nodup_cons.mp nodup
    rw [List.foldl_cons, ih nodup' (keeps s h i), acts s h j i]
    by_cases e : j = h
    · subst e
      simp [notIn]
    · simp [e]

theorem foldl_finRange {α : Type} {n : Nat} {f : State → Fin n → State} (read : State → Fin n → α) (g : Fin n → α → α)
    {I : State → Prop} (keeps : ∀ s h, I s → I (f s h))
    (acts : ∀ s h j, I s → read (f s h) j = if j = h then g j (read s j) else read s j) {s : State} (i : I s) (j : Fin n) :
    read ((List.finRange n).foldl f s) j = g j (read s j) := by
  rw [foldl_at read g keeps acts (List.nodup_finRange n) i, if_pos (List.mem_finRange j)]

/-! ## The gate plan (R90, R91) -/

theorem planInvariant_append {u : RoutingUnit} (h : planInvariant u) (e : PlanEntry) (p : Path) :
    planInvariant { plan := appendEntry e u.plan, gatePath := p } := by
  simp only [planInvariant, appendEntry] at *
  split
  · simp only [List.length_append, List.length_drop, List.length_singleton, planCapacity] at *
    omega
  · simp only [List.length_append, List.length_singleton]
    omega

theorem planEntry_congr {s t : State} (store : t.store = s.store) (l : Letter) (p : Path) : planEntry t l p = planEntry s l p := by
  simp only [planEntry, geometry, store]

theorem lateDisposition_routing (l : Letter) (c : ResidueCause) (s : State) :
    (lateDisposition l c s).routing
      = { s.routing with plan := appendEntry (planEntry s l (pathInEffect s.routing)) s.routing.plan } := by
  unfold lateDisposition
  dsimp only
  rw [setFlag_frame _ _ .routing (by decide), count_frame _ _ .routing (by decide)]
  generalize written : writeDisposition l.seq _ _ _ _ = t
  have routing : t.routing = s.routing := written ▸ rfl
  have store : t.store = s.store := written ▸ rfl
  have lamp : ∀ n, (recomputeLamp n t).routing = s.routing ∧ (recomputeLamp n t).store = s.store := fun n =>
    ⟨(recomputeLamp_frame t n .routing (by decide)).trans routing, (recomputeLamp_frame t n .store (by decide)).trans store⟩
  rw [appendPlan, State.withRouting_routing, (lamp _).1, planEntry_congr (lamp _).2]

theorem joinOrders_frame (os : List OrderFrame) (s : State) : changesOnly [.ring] s (os.foldl (fun s o => joinOrder o s) s) :=
  changesOnly.foldl (fun s o => joinOrder_frame s o) os s

theorem commitDecision_routing (l : Letter) (k : Selection) (g : Gated) (pr : Option (Accepted × Fin 8)) (n : Fin 8)
    (c : Option ResidueCause) (s : State) :
    (commitDecision l k g pr n c s).routing
      = { plan := appendEntry (planEntry s l g.path) s.routing.plan
          gatePath := if g.switchAt.isSome then g.path else s.routing.gatePath } := by
  unfold commitDecision
  dsimp only
  rw [recomputeLamp_frame _ _ .routing (by decide), joinOrders_frame _ _ .routing (by decide)]
  split <;> rfl

theorem routingDecision_plan (l : Letter) (v : Verdict) {s : State} (h : planInvariant s.routing) :
    planInvariant (routingDecision l v s).routing := by
  unfold routingDecision
  split
  · rw [lateDisposition_routing]
    exact planInvariant_append h _ _
  · dsimp only
    rw [commitDecision_routing]
    refine planInvariant_append ?_ _ _
    rwa [stackerPhase_frame _ _ _ _ .routing (by decide), printPhase_frame _ _ _ _ .routing (by decide),
      gatePhase_frame _ _ _ .routing (by decide), rowSelection_frame _ _ _ .routing (by decide)]

theorem completeSubject_plan (l : Letter) {s : State} (h : planInvariant s.routing) : planInvariant (completeSubject l s).routing := by
  unfold completeSubject
  split
  · rwa [releaseSubject_frame _ .routing (by decide)]
  · dsimp only
    rw [releaseSubject_frame _ .routing (by decide)]
    have counted : ∀ i t, planInvariant (State.routing t) → planInvariant (count i t).routing := fun i t ht => by
      rwa [count_frame t i .routing (by decide)]
    split
    · split
      · exact counted _ _ h
      · exact routingDecision_plan _ _ (counted _ _ h)
    · exact counted _ _ h

theorem completeEvaluation_plan {s : State} (h : planInvariant s.routing) : planInvariant (completeEvaluation s).routing := by
  have released : planInvariant (releaseSubject s).routing := by rwa [releaseSubject_frame _ .routing (by decide)]
  unfold completeEvaluation
  split
  · exact h
  split
  · exact released
  split
  · exact released
  · exact completeSubject_plan _ h

theorem planInvariant_nil (p : Path) : planInvariant ⟨[], p⟩ := Nat.zero_le _

theorem drainIfEmpty_plan {s : State} (h : planInvariant s.routing) : planInvariant (drainIfEmpty s).routing := by
  unfold drainIfEmpty
  split
  · exact planInvariant_nil _
  · exact h

theorem retire_plan (l : Letter) (c : Retirement) {s : State} (h : planInvariant s.routing) :
    planInvariant (retire l c s).routing := by
  refine drainIfEmpty_plan ?_
  rwa [forgetSubject_frame _ _ .routing (by decide), removeBooking_frame _ _ .routing (by decide),
    stackerShare_frame _ _ _ .routing (by decide), count_frame _ _ .routing (by decide)]

theorem leaveState_frame (l : Letter) (s : State) : changesOnly [.track, .scan, .eval, .cond, .ring] s (leaveState l s) := by
  unfold leaveState
  split
  · exact (setTrailExpected_frame _ _).chain ((closeEdgelost_frame s l).mono rfl) rfl
  · exact (dropFromQueue_frame s _).mono rfl
  · exact changesOnly.refl _ s
  · exact changesOnly.refl _ s

theorem declareLate_plan (l : Letter) {s : State} (h : planInvariant s.routing) : planInvariant (declareLate l s).routing := by
  have left : planInvariant (leaveState l s).routing := by rwa [leaveState_frame _ _ .routing (by decide)]
  rw [declareLate_eq, giveLate]
  split
  · exact left
  · rw [lateDisposition_routing]
    exact planInvariant_append left _ _

theorem takePosition_plan (x : Pos) {s : State} (h : planInvariant s.routing) : planInvariant (takePosition x s).routing := by
  refine takePosition_keeps (P := fun s => planInvariant s.routing) (fun _ _ h => h) (fun _ _ h => h) ?_ ?_ ?_ ?_ x h
  · intro s h
    exact ((List.dropWhile_sublist _).length_le).trans h
  · intro s h
    rwa [expireBookings_frame s .routing (by decide)]
  · intro q s h
    unfold testDeadline
    split
    · exact h
    · split
      · exact declareLate_plan _ h
      · exact h
  · intro q s h
    unfold testWindowEnd
    split
    · exact h
    · split
      · exact retire_plan _ _ h
      · exact h

theorem arriveReport_plan (n : Byte) (x : Pos) {s : State} (h : planInvariant s.routing) :
    planInvariant (arriveReport n x s).routing := by
  unfold arriveReport
  split
  · unfold arriveAt
    split
    · exact retire_plan _ _ h
    · rwa [setFlag_frame _ _ .routing (by decide), count_frame _ _ .routing (by decide)]
  · exact h

theorem takeMessage_plan (src : Station) (m : Message) {s : State} (other : ∀ code args, m ≠ .ask code args)
    (h : planInvariant s.routing) : planInvariant (takeMessage src m s).routing := by
  have taken := fun x => takePosition_plan x h
  cases m with
  | tick x => exact taken x
  | leadEdge x =>
    rw [takeMessage, leadEdgeAt_frame _ x .routing (by decide)]
    exact taken x
  | trailEdge x =>
    rw [takeMessage, trailEdgeAt_frame _ x .routing (by decide)]
    exact taken x
  | line head x w => exact taken x
  | arrive n x => exact arriveReport_plan n x h
  | swept n => rwa [takeMessage, sweptReport_frame s n .routing (by decide)]
  | headfault k t => rwa [takeMessage, headfaultReport_frame s k t .routing (by decide)]
  | purgedone k o => rwa [takeMessage, purgedoneReport_frame s k o .routing (by decide)]
  | ask code args => exact absurd rfl (other code args)

theorem enterStopped_routing (s : State) : (enterStopped s).routing = { s.routing with plan := [] } := by
  have folded := changesOnly.foldl abandonLetter_frame s.track.letters (s.withTrack { s.track with
    letters := [], lastTrailing := none, trailExpected := s.track.letters.any fun l => decide (l.state = .opened) }) .routing
    (by decide)
  have abandoned : (abandonLetters count s).routing = { s.routing with plan := [] } :=
    congrArg (fun u : RoutingUnit => { u with plan := [] }) folded
  rw [enterStopped, setMode_frame _ _ .routing (by decide), emptyBookings_frame _ .routing (by decide),
    recomputeLamps_frame _ .routing (by decide), abandoned]

theorem applyMode_plan (m : LaneMode) {s : State} (h : planInvariant s.routing) : planInvariant (applyMode m s).routing := by
  cases m with
  | stopped =>
    rw [applyMode, enterStopped_routing]
    exact planInvariant_nil _
  | running => exact h
  | service => exact h
  | draining => exact drainIfEmpty_plan (s := setMode .draining s) h

theorem serve_plan (code : Byte) (args : List Byte) {s : State} (h : planInvariant s.routing) :
    planInvariant (serve code args s).state.routing := by
  by_cases written : Block.routing ∈ askWrites code
  · have form := serve_form code args
    generalize serve code args = f at form ⊢
    cases form with
    | badLength | unknown => exact h
    | mode =>
      refine serveMode_keeps (P := fun s => planInvariant s.routing) (fun s h => ?_) (fun m _ _ => applyMode_plan m) (fun e s h => ?_) _ _ h
      · rwa [setFlag_frame s _ .routing (by decide)]
      · rwa [applyEntry_frame s e .routing (by decide)]
    | _ => exact absurd written (by decide)
  · rwa [serve_writes code args s .routing written]

theorem laneReset_routing (src : Station) (s : State) : (laneReset src s).routing = { s.routing with plan := [] } := by
  have resynced : (resynced (resetAnswered src s)).routing = (resetAnswered src s).routing :=
    changesOnly.foldl resyncLamp_frame _ _ .routing (by decide)
  have answered : (resetAnswered src s).routing = (resetBlocks s).routing := joinAnswer_frame _ _ .routing (by decide)
  have folded := changesOnly.foldl abandonLetterQuiet_frame s.track.letters (s.withTrack { s.track with
    letters := [], lastTrailing := none, trailExpected := s.track.letters.any fun l => decide (l.state = .opened) }) .routing
    (by decide)
  have blocks : (resetBlocks s).routing = { s.routing with plan := [] } :=
    congrArg (fun u : RoutingUnit => { u with plan := [] }) folded
  rw [laneReset_eq, State.withCond_routing, resynced, answered, blocks]

theorem planInvariant_keeps (start : State) : StepKeeps start (fun _ => True) fun s => planInvariant s.routing where
  ring _ _ _ h := h
  pending _ _ h := h
  flag s f h := by rwa [setFlag_frame s f .routing (by decide)]
  message src m _ _ other := takeMessage_plan src m other
  serve code args _ _ := serve_plan code args
  laneReset src s h := by
    rw [laneReset_routing]
    exact planInvariant_nil _
  powerOn _ _ _ := planInvariant_nil _
  period s h := by rwa [timebaseTick_frame s .routing (by decide)]
  evaluation _ := completeEvaluation_plan
  restart k s h := by rwa [restartExpiry_frame s k .routing (by decide)]
  window k s h := by rwa [windowExpiry_frame s k .routing (by decide)]
  purge k s h := by rwa [purgeExpiry_frame s k .routing (by decide)]
  second _ h := h
  release s h := by rwa [releaseReset_frame s .routing (by decide)]

end Sys2Proof.Machine
end

section
/-! SUPPORT. Each operation of the cancel unit head by head, and the invariant of a head (R95, R101 to R113). -/

namespace Sys2Proof.Machine

/-! ## A head whose list has been shortened (R102, R110) -/

/-- A head in PURGE-WAIT with an empty list proceeds to its purge, whose timer runs for t (R110). -/
def proceeding (t : Nat) (k : Head) : Head :=
  if k.state = .purgeWait ∧ k.bookings = [] then { k with purge := some (startTimer t), state := .purging } else k

theorem proceedIfEmpty_get (h j : Fin 4) (s : State) :
    (proceedIfEmpty h s).heads[j] = if j = h then proceeding (purgeTimeoutLength s) s.heads[j] else s.heads[j] := by
  unfold proceeding
  rcases proceedIfEmpty_cases s h with ⟨due, e, same⟩ | ⟨not, same⟩ <;> rw [same]
  · rw [startPurge_heads]
    split
    · next at_ => rw [at_, if_pos ⟨due, e⟩]
    · rfl
  · split
    · next at_ => rw [at_, if_neg not]
    · rfl

theorem purgeTimeoutLength_congr {s t : State} (store : t.store = s.store) : purgeTimeoutLength t = purgeTimeoutLength s := by
  unfold purgeTimeoutLength geometryCommitted
  rw [store]

/-- A head after an advance of the belt: the bookings at the front whose print end is reached are gone (R102). -/
def advancedHead (belt : Pos) (t : Nat) (k : Head) : Head :=
  if expired belt k.bookings = [] then k
  else proceeding t { k with bookings := k.bookings.drop (expired belt k.bookings).length }

theorem expireHead_get (h j : Fin 4) (s : State) :
    (expireHead h s).heads[j]
      = if j = h then advancedHead s.position.belt (purgeTimeoutLength s) s.heads[j] else s.heads[j] := by
  unfold expireHead advancedHead
  dsimp only
  split
  · next empty =>
    by_cases at_ : j = h
    · subst at_
      exact (if_pos rfl).symm ▸ (if_pos empty).symm
    · rw [if_neg at_]
  · next some =>
    generalize gone_eq : expired s.position.belt s.heads[h].bookings = gone at *
    have counted := changesOnly.foldl expireBooking_frame gone
      (modifyHead h (fun k => { k with bookings := k.bookings.drop gone.length }) s)
    have store := purgeTimeoutLength_congr (counted .store (by decide))
    rw [proceedIfEmpty_get, store, counted .heads (by decide), modifyHead_get]
    by_cases at_ : j = h
    · subst at_
      rw [if_pos rfl, if_pos rfl, if_pos rfl, gone_eq, if_neg some]
      rfl
    · rw [if_neg at_, if_neg at_, if_neg at_]

/-- The belt position and the length of a purge, which the operations of the heads only read. -/
def timesOf (s : State) : Pos × Nat := (s.position.belt, purgeTimeoutLength s)

theorem timesOf_frame {bs : List Block} {s t : State} (h : changesOnly bs s t) (position : Block.position ∉ bs)
    (store : Block.store ∉ bs) : timesOf t = timesOf s := by
  have belt : t.position = s.position := h .position position
  rw [timesOf, belt, purgeTimeoutLength_congr (h .store store)]
  rfl

theorem expireBookings_get (j : Fin 4) (s : State) :
    (expireBookings s).heads[j] = advancedHead s.position.belt (purgeTimeoutLength s) s.heads[j] := by
  refine foldl_finRange (fun s j => s.heads[j]) (fun _ => advancedHead s.position.belt (purgeTimeoutLength s))
    (I := fun t => timesOf t = timesOf s) (fun t h e => ?_) (fun t h j e => ?_) rfl j
  · exact (timesOf_frame (expireHead_frame t h) (by decide) (by decide)).trans e
  · obtain ⟨belt, length⟩ := Prod.mk.inj e
    rw [expireHead_get, belt, length]

/-- A head without the bookings of a letter that has left the track (R19, R110). -/
def headWithout (q : Seq) (t : Nat) (k : Head) : Head :=
  if k.bookings.any fun b => b.tag = q then proceeding t { k with bookings := k.bookings.filter fun b => b.tag ≠ q } else k

theorem removeBookingAt_get (q : Seq) (h j : Fin 4) (s : State) :
    (removeBookingAt q h s).heads[j] = if j = h then headWithout q (purgeTimeoutLength s) s.heads[j] else s.heads[j] := by
  unfold removeBookingAt headWithout
  split
  · next some =>
    rw [proceedIfEmpty_get, modifyHead_get]
    by_cases at_ : j = h
    · subst at_
      rw [if_pos rfl, if_pos rfl, if_pos rfl, if_pos some]
      rfl
    · rw [if_neg at_, if_neg at_, if_neg at_]
  · next no =>
    by_cases at_ : j = h
    · subst at_
      exact (if_pos rfl).symm ▸ (if_neg no).symm
    · rw [if_neg at_]

theorem removeBooking_get (q : Seq) (j : Fin 4) (s : State) :
    (removeBooking q s).heads[j] = headWithout q (purgeTimeoutLength s) s.heads[j] := by
  refine foldl_finRange (fun s j => s.heads[j]) (fun _ => headWithout q (purgeTimeoutLength s))
    (I := fun t => timesOf t = timesOf s) (fun t h e => ?_) (fun t h j e => ?_) rfl j
  · exact (timesOf_frame (removeBookingAt_frame t q h) (by decide) (by decide)).trans e
  · obtain ⟨-, length⟩ := Prod.mk.inj e
    rw [removeBookingAt_get, length]

theorem emptyBookings_get (j : Fin 4) (s : State) :
    (emptyBookings s).heads[j] = proceeding (purgeTimeoutLength s) { s.heads[j] with bookings := [] } := by
  unfold emptyBookings
  dsimp only
  generalize emptied : s.withHeads (Vector.ofFn fun h => { s.heads[h] with bookings := [] }) = u
  have times : timesOf u = timesOf s := emptied ▸ rfl
  have at_ : u.heads[j] = { s.heads[j] with bookings := [] } := by
    subst emptied
    simp
  rw [← at_]
  refine foldl_finRange (fun s j => s.heads[j]) (fun _ => proceeding (purgeTimeoutLength s))
    (I := fun t => timesOf t = timesOf s) (fun t h e => ?_) (fun t h j e => ?_) times j
  · exact (timesOf_frame (proceedIfEmpty_frame t h) (by decide) (by decide)).trans e
  · obtain ⟨-, length⟩ := Prod.mk.inj e
    rw [proceedIfEmpty_get, length]

/-! ## The invariant of a head -/

/-- A head whose list an event shortens meets its invariant once it has proceeded where it must. -/
theorem headInvariant_proceeding {k : Head} (fits : headInvariant k) (t : Nat) {bs : List Booking}
    (fewer : bs.length ≤ k.bookings.length) : headInvariant (proceeding t { k with bookings := bs }) := by
  obtain ⟨restart, purge, window, abort, booked, waiting, few⟩ := fits
  have nonempty : bs ≠ [] → k.bookings ≠ [] := fun h e => h (List.length_eq_zero_iff.mp (by simpa [e] using fewer))
  unfold proceeding
  dsimp only
  split
  · next due =>
    obtain ⟨isWaiting, rfl⟩ := due
    refine ⟨?_, by simp, fun _ => .inr (.inr rfl), fun _ => rfl, fun h => absurd rfl h, by simp, Nat.zero_le _⟩
    simpa [isWaiting] using restart
  · next notDue =>
    exact ⟨restart, purge, window, abort, fun h => booked (nonempty h), fun isWaiting e => notDue ⟨isWaiting, e⟩,
      fewer.trans few⟩

theorem headInvariant_advancedHead {k : Head} (fits : headInvariant k) (belt : Pos) (t : Nat) :
    headInvariant (advancedHead belt t k) := by
  unfold advancedHead
  split
  · exact fits
  · exact headInvariant_proceeding fits t ((List.drop_sublist _ _).length_le)

theorem headInvariant_headWithout {k : Head} (fits : headInvariant k) (q : Seq) (t : Nat) :
    headInvariant (headWithout q t k) := by
  unfold headWithout
  split
  · exact headInvariant_proceeding fits t ((List.filter_sublist).length_le)
  · exact fits

/-- Every head meets its invariant. -/
def headsFit (s : State) : Prop := ∀ h : Fin 4, headInvariant s.heads[h]

section
variable {s : State}

theorem headsFit_of_heads {t : State} (same : t.heads = s.heads) (h : headsFit s) : headsFit t := fun j => by
  rw [same]
  exact h j

theorem headsFit_modifyHead (h : headsFit s) {k : Fin 4} {f : Head → Head} (fits : headInvariant (f s.heads[k])) :
    headsFit (modifyHead k f s) := by
  intro j
  rw [modifyHead_get]
  split
  · next at_ => exact at_ ▸ fits
  · exact h j

/-- A head that is DISABLED, LATCHED or READY without bookings and timers meets its invariant. -/
theorem headInvariant_atRest {k : Head} (state : k.state = .disabled ∨ k.state = .latched ∨ k.state = .ready)
    (bookings : k.bookings = []) (restart : k.restart = none) (purge : k.purge = none)
    (window : k.faultWindow.isSome = true → k.state = .ready) (abort : k.abort = false) : headInvariant k := by
  obtain ⟨state', bs, r, w, p, a, o⟩ := k
  dsimp only at *
  subst bookings restart purge abort
  refine ⟨?_, ?_, fun h => .inl (window h), by simp, by simp, ?_, Nat.zero_le _⟩ <;> rcases state with rfl | rfl | rfl <;> simp

theorem headInvariant_reset : headInvariant .reset :=
  headInvariant_atRest (.inl rfl) rfl rfl rfl (by simp [Head.reset]) rfl

/-- What the state of a head says of its timers, its abort indicator and its list. -/
theorem headInvariant.restart_none {k : Head} (h : headInvariant k) {st : HeadState} (e : k.state = st)
    (other : st ≠ .resting := by decide) : k.restart = none := by
  have := h.1
  simpa [e, other] using this

theorem headInvariant.purge_none {k : Head} (h : headInvariant k) {st : HeadState} (e : k.state = st)
    (other : st ≠ .purging := by decide) : k.purge = none := by
  have := h.2.1
  simpa [e, other] using this

theorem headInvariant.abort_false {k : Head} (h : headInvariant k) {st : HeadState} (e : k.state = st)
    (other : st ≠ .purging := by decide) : k.abort = false := by
  have := h.2.2.2.1
  simpa [e, other] using this

theorem headInvariant.bookings_nil {k : Head} (h : headInvariant k) {st : HeadState} (e : k.state = st)
    (ready : st ≠ .ready := by decide) (wait : st ≠ .purgeWait := by decide) : k.bookings = [] := by
  have := h.2.2.2.2.1
  by_contra some
  rcases this some with e' | e'
  · exact ready (e.symm.trans e')
  · exact wait (e.symm.trans e')

/-! A head that changes its state or one of its timers. -/

theorem headInvariant_ready {k : Head} (h : headInvariant k) {st : HeadState} (e : k.state = st) (ready : st ≠ .ready := by decide)
    (wait : st ≠ .purgeWait := by decide) (purging : st ≠ .purging := by decide) (w : Option Timer) :
    headInvariant { k with restart := none, state := .ready, faultWindow := w } :=
  headInvariant_atRest (.inr (.inr rfl)) (h.bookings_nil e ready wait) rfl (h.purge_none e purging) (fun _ => rfl)
    (h.abort_false e purging)

theorem headInvariant_purging {k : Head} (h : headInvariant k) (ready : k.state = .ready) (empty : k.bookings = []) (t : Timer) :
    headInvariant { k with purge := some t, state := .purging } := by
  obtain ⟨restart, -, -, -, -, -, few⟩ := h
  exact ⟨by simpa [ready] using restart, by simp, fun _ => .inr (.inr rfl), fun _ => rfl, fun some => absurd empty some, by simp, few⟩

theorem headInvariant_purgeWait {k : Head} (h : headInvariant k) (ready : k.state = .ready) (some : k.bookings ≠ []) :
    headInvariant { k with state := .purgeWait } := by
  obtain ⟨restart, purge, window, abort, booked, waiting, few⟩ := h
  exact ⟨by simpa [ready] using restart, by simpa [ready] using purge, fun _ => .inr (.inl rfl), by simpa [ready] using abort,
    fun _ => .inr rfl, fun _ => some, few⟩

theorem headInvariant_noWait {k : Head} (h : headInvariant k) (wait : k.state = .purgeWait) :
    headInvariant { k with state := .ready } := by
  obtain ⟨restart, purge, window, abort, booked, waiting, few⟩ := h
  exact ⟨by simpa [wait] using restart, by simpa [wait] using purge, fun _ => .inl rfl, by simpa [wait] using abort,
    fun _ => .inl rfl, by simp, few⟩

theorem headInvariant_aborting {k : Head} (h : headInvariant k) (purges : k.state = .purging) :
    headInvariant { k with abort := true } := by
  obtain ⟨restart, purge, window, abort, booked, waiting, few⟩ := h
  exact ⟨restart, purge, window, fun _ => purges, booked, waiting, few⟩

theorem headInvariant_windowTimer {k : Head} (h : headInvariant k) (t : Option Timer)
    (was : t.isSome = true → k.faultWindow.isSome = true) : headInvariant { k with faultWindow := t } := by
  obtain ⟨restart, purge, window, abort, booked, waiting, few⟩ := h
  exact ⟨restart, purge, fun some => window (was some), abort, booked, waiting, few⟩

theorem headInvariant_purgeTimer {k : Head} (h : headInvariant k) {t : Timer} (runs : k.purge = some t) (u : Timer) :
    headInvariant { k with purge := some u } := by
  obtain ⟨restart, purge, rest⟩ := h
  exact ⟨restart, by simpa [runs] using purge, rest⟩

theorem headInvariant_restartTimer {k : Head} (h : headInvariant k) {t : Timer} (runs : k.restart = some t) (u : Timer) :
    headInvariant { k with restart := some u } := by
  obtain ⟨restart, rest⟩ := h
  exact ⟨by simpa [runs] using restart, rest⟩

theorem headInvariant_resting {k : Head} (purge : k.purge = none) (abort : k.abort = false) (closed : ¬k.faultWindow.isSome = true)
    (t : Timer) : headInvariant { k with bookings := [], restart := some t, state := .resting } :=
  ⟨by simp, by simp [purge], fun some => absurd some closed, by simp [abort], by simp, by simp, Nat.zero_le _⟩

theorem headInvariant_booked {k : Head} (h : headInvariant k) (ready : k.state = .ready)
    (room : k.bookings.length < bookingCapacity) (b : Booking) : headInvariant { k with bookings := k.bookings ++ [b] } := by
  obtain ⟨restart, purge, window, abort, booked, waiting, few⟩ := h
  refine ⟨restart, purge, window, abort, fun _ => .inl ready, fun _ => by simp, ?_⟩
  simp only [List.length_append, List.length_singleton]
  omega

theorem headsFit_expireBookings (h : headsFit s) : headsFit (expireBookings s) := fun j => by
  rw [expireBookings_get]
  exact headInvariant_advancedHead (h j) _ _

theorem headsFit_removeBooking (h : headsFit s) (q : Seq) : headsFit (removeBooking q s) := fun j => by
  rw [removeBooking_get]
  exact headInvariant_headWithout (h j) _ _

theorem headsFit_emptyBookings (h : headsFit s) : headsFit (emptyBookings s) := fun j => by
  rw [emptyBookings_get]
  exact headInvariant_proceeding (h j) _ (Nat.zero_le _)

theorem headsFit_restartExpiry (h : headsFit s) (k : Fin 4) : headsFit (restartExpiry k s) := by
  unfold restartExpiry
  split
  · next runs =>
    have rests := (h k).1.mp runs
    exact headsFit_modifyHead h (headInvariant_ready (h k) rests (w := openWindow s))
  · exact h

theorem headsFit_windowExpiry (h : headsFit s) (k : Fin 4) : headsFit (windowExpiry k s) :=
  headsFit_modifyHead h (headInvariant_windowTimer (h k) none (by simp))

theorem headsFit_setFlag (h : headsFit s) (f : ConditionFlag) : headsFit (setFlag f s) :=
  headsFit_of_heads (setFlag_frame s f .heads (by decide)) h

theorem headsFit_purgeExpiry (h : headsFit s) (k : Fin 4) : headsFit (purgeExpiry k s) := by
  unfold purgeExpiry
  split
  · next purges =>
    exact headsFit_setFlag (headsFit_setFlag (headsFit_modifyHead h (headInvariant_atRest (.inr (.inl rfl))
      ((h k).bookings_nil purges) ((h k).restart_none purges) rfl (by simp) rfl)) _) _
  · exact h

theorem headsFit_headMillisecond (h : headsFit s) (k : Fin 4) : headsFit (headMillisecond s k) := by
  have window : headsFit (windowMillisecond k s) := by
    unfold windowMillisecond
    split
    · exact h
    · next t runs =>
      split
      · exact headsFit_windowExpiry h k
      · exact headsFit_modifyHead h (headInvariant_windowTimer (h k) _ fun _ => by rw [runs]; rfl)
  have purge : ∀ s, headsFit s → headsFit (purgeMillisecond k s) := by
    intro s h
    unfold purgeMillisecond
    split
    · exact h
    · next t runs =>
      split
      · exact headsFit_purgeExpiry h k
      · exact headsFit_modifyHead h (headInvariant_purgeTimer (h k) runs _)
  have restart : ∀ s, headsFit s → headsFit (restartMillisecond k s) := by
    intro s h
    unfold restartMillisecond
    split
    · exact h
    · next t runs =>
      split
      · exact headsFit_restartExpiry h k
      · exact headsFit_modifyHead h (headInvariant_restartTimer (h k) runs _)
  exact restart _ (purge _ window)

theorem headsFit_timebaseTick (h : headsFit s) : headsFit (timebaseTick s) := by
  have folded : ∀ (ks : List (Fin 4)) (s : State), headsFit s → headsFit (ks.foldl headMillisecond s) := by
    intro ks
    induction ks with
    | nil => exact fun _ h => h
    | cons k ks ih => exact fun s h => ih _ (headsFit_headMillisecond h k)
  unfold timebaseTick
  split
  · exact h
  · refine headsFit_of_heads (secondTick_frame _ .heads (by decide)) ?_
    unfold millisecondTick
    split
    · exact h
    · exact folded _ _ h

/-! ## The actions on a head (R109 to R113) -/

/-- A head once its bookings are dropped and its state is one without bookings. -/
theorem dropBookings_get (k j : Fin 4) (s : State) :
    (dropBookings k s).heads[j] = if j = k then { s.heads[j] with bookings := [] } else s.heads[j] := by
  rw [dropBookings_heads, modifyHead_get]

theorem headsFit_afterDrop (h : headsFit s) {k : Fin 4} {f : Head → Head}
    (fits : headInvariant (f { s.heads[k] with bookings := [] })) : headsFit (modifyHead k f (dropBookings k s)) := by
  intro j
  rw [modifyHead_get, dropBookings_get]
  split
  · next at_ => exact at_ ▸ fits
  · exact h j

theorem headsFit_disableHead (h : headsFit s) (k : Fin 4) : headsFit (disableHead k s) :=
  headsFit_afterDrop h (headInvariant_atRest (.inl rfl) rfl rfl rfl (by simp) rfl)

theorem headsFit_enableHead (h : headsFit s) (k : Fin 4) : headsFit (enableHead k s).1 := by
  unfold enableHead
  split
  · next e =>
    exact headsFit_modifyHead h (headInvariant_atRest (.inr (.inr rfl)) ((h k).bookings_nil e) ((h k).restart_none e)
      ((h k).purge_none e) (fun _ => rfl) ((h k).abort_false e))
  · next e =>
    exact headsFit_modifyHead h (headInvariant_atRest (.inr (.inr rfl)) ((h k).bookings_nil e) ((h k).restart_none e)
      ((h k).purge_none e) (fun _ => rfl) ((h k).abort_false e))
  · next e => exact headsFit_modifyHead h (headInvariant_ready (h k) e (w := openWindow s))
  all_goals exact h

theorem headsFit_startPurge (h : headsFit s) (k : Fin 4) (ready : s.heads[k].state = .ready) (empty : s.heads[k].bookings = []) :
    headsFit (startPurge k s) := by
  intro j
  rw [startPurge_heads]
  split
  · next at_ =>
    rw [at_]
    exact headInvariant_purging (h k) ready empty _
  · exact h j

theorem headsFit_purgeHead (h : headsFit s) (k : Fin 4) : headsFit (purgeHead k s).1 := by
  unfold purgeHead
  split
  · next ready =>
    split
    · next empty => exact headsFit_startPurge h k ready empty
    · next some => exact headsFit_modifyHead h (headInvariant_purgeWait (h k) ready some)
  all_goals exact h

theorem headsFit_abortPurgeHead (h : headsFit s) (k : Fin 4) : headsFit (abortPurgeHead k s).1 := by
  unfold abortPurgeHead
  split
  · next wait => exact headsFit_modifyHead h (headInvariant_noWait (h k) wait)
  · next purges =>
    split
    · exact h
    · have issued := issueOrder_frame s (.abort k) ⟨headStation s.store.tables k, .abort k⟩ .heads (by decide)
      refine headsFit_modifyHead (headsFit_of_heads issued h) ?_
      rw [issued]
      exact headInvariant_aborting (h k) purges
  all_goals exact h

theorem headsFit_headAction (h : headsFit s) (a : HeadAction) (k : Fin 4) : headsFit (headAction a k s).1 := by
  cases a with
  | enable => exact headsFit_enableHead h k
  | disable => exact headsFit_disableHead h k
  | purge => exact headsFit_purgeHead h k
  | abortPurge => exact headsFit_abortPurgeHead h k
  | status => exact h

/-! ## Reports (R104, R107) -/

theorem headsFit_afterFault (h : headsFit s) (k : Fin 4) (tag : Option Seq) (latched : Bool) :
    headsFit (afterFault k tag latched s) := headsFit_of_heads (afterFault_frame s k tag latched .heads (by decide)) h

theorem headsFit_headfaultAt (h : headsFit s) (k : Fin 4) (tag : Option Seq) : headsFit (headfaultAt k tag s) := by
  have faulted : ∀ {st : HeadState}, s.heads[k].state = st → st ≠ .resting → st ≠ .purging →
      headsFit (if s.heads[k].faultWindow.isSome = true then
          afterFault k tag true (modifyHead k (fun k => { k with faultWindow := none, state := .latched }) (dropBookings k s))
        else
          afterFault k tag false (modifyHead k (fun k' => { k' with
            restart := some (startTimer (restartDelay (dropBookings k s))), state := .resting }) (dropBookings k s))) := by
    intro st e rests purges
    have purge := (h k).purge_none e purges
    have abort := (h k).abort_false e purges
    split
    · exact headsFit_afterFault (headsFit_afterDrop h
        (headInvariant_atRest (.inr (.inl rfl)) rfl ((h k).restart_none e rests) purge (by simp) abort)) _ _ _
    · next closed => exact headsFit_afterFault (headsFit_afterDrop h (headInvariant_resting purge abort closed _)) _ _ _
  unfold headfaultAt
  dsimp only
  split
  · next e => exact faulted e (by decide) (by decide)
  · next e => exact faulted e (by decide) (by decide)
  · next e =>
    exact headsFit_afterFault (headsFit_modifyHead h (headInvariant_atRest (.inr (.inl rfl)) ((h k).bookings_nil e) rfl
      ((h k).purge_none e) (by simp) ((h k).abort_false e))) _ _ _
  · next e =>
    exact headsFit_afterFault (headsFit_modifyHead h (headInvariant_atRest (.inr (.inl rfl)) ((h k).bookings_nil e)
      ((h k).restart_none e) rfl (by simp) rfl)) _ _ _
  all_goals exact h

theorem headsFit_purgedoneAt (h : headsFit s) (k : Fin 4) (o : PurgeReport) : headsFit (purgedoneAt k o s) := by
  unfold purgedoneAt
  split
  · next e =>
    exact headsFit_modifyHead h (headInvariant_atRest (.inr (.inr rfl)) ((h k).bookings_nil e) ((h k).restart_none e) rfl
      (fun _ => rfl) rfl)
  · exact h

/-! ## Decisions and retirements (R19, R84, R98) -/

/-- An accepted request is for a READY head with room. -/
theorem requestBooking_head {s : State} {l : Letter} {v : Verdict} {p : Path} {pat : Fin 8} {a : Accepted}
    (accepted : requestBooking s l v p pat = some a) :
    s.heads[a.head].state = .ready ∧ s.heads[a.head].bookings.length < bookingCapacity := by
  unfold requestBooking at accepted
  dsimp only at accepted
  split at accepted
  · cases accepted
  split at accepted
  · split at accepted
    · cases accepted
    split at accepted
    · cases accepted
    split at accepted
    · cases accepted
    next ready =>
    split at accepted
    · cases accepted
    next room =>
    split at accepted
    · cases accepted
    split at accepted
    · cases accepted
    cases accepted
    exact ⟨not_not.mp ready, Nat.not_le.mp room⟩
  · cases accepted

theorem headsFit_printPhase (h : headsFit s) (l : Letter) (v : Verdict) (g : Gated) : headsFit (printPhase l v g s).2.2 := by
  unfold printPhase
  split
  · exact h
  · split
    · next a accepted =>
      obtain ⟨ready, room⟩ := requestBooking_head accepted
      exact headsFit_modifyHead h (headInvariant_booked (h a.head) ready room _)
    · exact headsFit_setFlag (headsFit_of_heads (count_frame s _ .heads (by decide)) h) _

theorem headsFit_routingDecision (h : headsFit s) (l : Letter) (v : Verdict) : headsFit (routingDecision l v s) := by
  unfold routingDecision
  split
  · exact headsFit_of_heads (lateDisposition_frame s l _ .heads (by decide)) h
  · dsimp only
    refine headsFit_of_heads ((commitDecision_frame _ _ _ _ _ _ _ .heads (by decide)).trans
      (stackerPhase_frame _ _ _ _ .heads (by decide))) (headsFit_printPhase (headsFit_of_heads
        ((gatePhase_frame _ _ _ .heads (by decide)).trans (rowSelection_frame _ _ _ .heads (by decide))) h) _ _ _)

theorem headsFit_completeSubject (h : headsFit s) (l : Letter) : headsFit (completeSubject l s) := by
  have released : ∀ s, headsFit s → headsFit (releaseSubject s) :=
    fun s h => headsFit_of_heads (releaseSubject_frame s .heads (by decide)) h
  have counted : ∀ s i, headsFit s → headsFit (count i s) := fun s i h => headsFit_of_heads (count_frame s i .heads (by decide)) h
  unfold completeSubject
  split
  · exact released s h
  · dsimp only
    refine released _ ?_
    have recorded : ∀ v m, headsFit (recordVerdict l.seq v m s) :=
      fun v m => headsFit_of_heads (recordVerdict_frame s _ _ _ .heads (by decide)) h
    split
    · split
      · exact counted _ _ (recorded _ _)
      · exact headsFit_routingDecision (counted _ _ (recorded _ _)) _ _
    · exact counted _ _ (recorded _ _)

theorem headsFit_completeEvaluation (h : headsFit s) : headsFit (completeEvaluation s) := by
  have released : headsFit (releaseSubject s) := headsFit_of_heads (releaseSubject_frame s .heads (by decide)) h
  unfold completeEvaluation
  split
  · exact h
  split
  · exact released
  split
  · exact released
  · exact headsFit_completeSubject h _

theorem headsFit_retire (h : headsFit s) (l : Letter) (c : Retirement) : headsFit (retire l c s) := by
  unfold retire
  dsimp only
  refine headsFit_of_heads (drainIfEmpty_frame _ .heads (by decide)) ?_
  refine headsFit_of_heads (forgetSubject_frame _ _ .heads (by decide)) (headsFit_removeBooking ?_ l.seq)
  refine headsFit_of_heads (stackerShare_frame _ l c .heads (by decide)) ?_
  refine headsFit_of_heads (count_frame _ _ .heads (by decide)) ?_
  exact headsFit_of_heads (removeLetter_frame s _ .heads (by decide)) h

theorem headsFit_takePosition (h : headsFit s) (x : Pos) : headsFit (takePosition x s) := by
  refine takePosition_keeps (P := headsFit) (fun s _ => headsFit_of_heads (s := s) rfl) (fun s _ => headsFit_of_heads (s := s) rfl)
    (fun s => headsFit_of_heads (s := s) rfl) (fun _ => headsFit_expireBookings) ?_ ?_ x h
  · exact fun q s h => headsFit_of_heads (testDeadline_frame s q .heads (by decide)) h
  · intro q s h
    unfold testWindowEnd
    split
    · exact h
    · split
      · exact headsFit_retire h _ _
      · exact h

theorem headsFit_takeMessage (h : headsFit s) (src : Station) (m : Message) (other : ∀ code args, m ≠ .ask code args) :
    headsFit (takeMessage src m s) := by
  have taken := headsFit_takePosition h
  cases m with
  | tick x => exact taken x
  | leadEdge x => exact headsFit_of_heads (leadEdgeAt_frame _ x .heads (by decide)) (taken x)
  | trailEdge x => exact headsFit_of_heads (trailEdgeAt_frame _ x .heads (by decide)) (taken x)
  | line head x w => exact taken x
  | arrive n x =>
    rw [takeMessage, arriveReport]
    split
    · unfold arriveAt
      split
      · exact headsFit_retire h _ _
      · exact headsFit_setFlag (headsFit_of_heads (count_frame s _ .heads (by decide)) h) _
    · exact h
  | swept n => exact headsFit_of_heads (sweptReport_frame s n .heads (by decide)) h
  | headfault k t =>
    rw [takeMessage, headfaultReport]
    split
    · exact headsFit_headfaultAt h _ t
    · exact h
  | purgedone k o =>
    rw [takeMessage, purgedoneReport]
    split
    · exact headsFit_purgedoneAt h _ o
    · exact h
  | ask code args => exact absurd rfl (other code args)

/-! ## The asks -/

theorem headsFit_applyMode (h : headsFit s) (m : LaneMode) : headsFit (applyMode m s) := by
  cases m with
  | stopped =>
    rw [applyMode, enterStopped]
    refine headsFit_of_heads (setMode_frame _ _ .heads (by decide)) (headsFit_emptyBookings ?_)
    refine headsFit_of_heads (recomputeLamps_frame _ .heads (by decide)) ?_
    exact headsFit_of_heads (abandonLetters_frame s .heads (by decide)) h
  | running => exact h
  | service => exact h
  | draining =>
    rw [applyMode]
    exact headsFit_of_heads (drainIfEmpty_frame (setMode .draining s) .heads (by decide)) h

theorem headsFit_applyEntry (h : headsFit s) (e : HeadEntry) : headsFit (applyEntry s e) := by
  unfold applyEntry
  split
  · exact headsFit_enableHead h _
  · exact headsFit_disableHead h _

theorem headsFit_serve (h : headsFit s) (code : Byte) (args : List Byte) : headsFit (serve code args s).state := by
  by_cases written : Block.heads ∈ askWrites code
  · have form := serve_form code args
    generalize serve code args = f at form ⊢
    cases form with
    | badLength | unknown => exact h
    | mode =>
      exact serveMode_keeps (P := headsFit) (fun _ h => headsFit_setFlag h _) (fun m _ _ h => headsFit_applyMode h m)
        (fun e _ h => headsFit_applyEntry h e) _ _ h
    | headControl =>
      unfold serveHeadControl
      split
      · split
        · exact h
        · exact headsFit_headAction h _ _
      · exact h
    | _ => exact absurd written (by decide)
  · exact headsFit_of_heads (serve_writes code args s .heads written) h

theorem resetHeads_get (j : Fin 4) (s : State) : (resetHeads s).heads[j] = { Head.reset with lastPurge := s.heads[j].lastPurge } := by
  simp [resetHeads]

theorem laneReset_heads (src : Station) (s : State) : (laneReset src s).heads = (resetHeads s).heads := by
  have resynced : (resynced (resetAnswered src s)).heads = (resetAnswered src s).heads :=
    changesOnly.foldl resyncLamp_frame _ _ .heads (by decide)
  have answered : (resetAnswered src s).heads = (resetBlocks s).heads := joinAnswer_frame _ _ .heads (by decide)
  have abandoned : (abandonLetters countQuiet s).heads = s.heads := abandonLettersQuiet_frame s .heads (by decide)
  have blocks : (resetBlocks s).heads = (resetHeads (abandonLetters countQuiet s)).heads := rfl
  rw [laneReset_eq, State.withCond_heads, resynced, answered, blocks, resetHeads, resetHeads, abandoned]
  rfl

theorem headsFit_laneReset (src : Station) (s : State) : headsFit (laneReset src s) := by
  refine headsFit_of_heads (laneReset_heads src s) fun j => ?_
  rw [resetHeads_get]
  exact headInvariant_atRest (.inl rfl) rfl rfl rfl (by simp [Head.reset]) rfl

end

theorem headsFit_keeps (start : State) : StepKeeps start (fun _ => True) headsFit where
  ring _ _ _ h := h
  pending _ _ h := h
  flag _ f h := headsFit_setFlag h f
  message src m _ _ other h := headsFit_takeMessage h src m other
  serve code args _ _ h := headsFit_serve h code args
  laneReset src s _ := headsFit_laneReset src s
  powerOn _ _ _ := fun j => by
    have same : (Vector.replicate 4 Head.reset)[j] = Head.reset := by simp
    exact same.symm ▸ headInvariant_reset
  period _ := headsFit_timebaseTick
  evaluation _ := headsFit_completeEvaluation
  restart k _ h := headsFit_restartExpiry h k
  window k _ h := headsFit_windowExpiry h k
  purge k _ h := headsFit_purgeExpiry h k
  second _ h := h
  release s h := headsFit_of_heads (releaseReset_frame s .heads (by decide)) h

/-- Settles O55, unit by unit. -/
theorem unitInvariantsKept : Obligations.UnitInvariantsKept := by
  intro s t stepped
  have rows : StepKeeps s (fun _ => True) fun u => goodRoutingRows u.store.tables :=
    store_keeps (P := fun st => goodRoutingRows st.tables) goodRoutingRows_change fun _ => goodRoutingRows_zero
  exact ⟨(clockInvariant_keeps s).stepAny stepped, (clockFlagInvariant_keeps s).stepAny stepped,
    (scanInvariant_keeps s).stepAny stepped, (headsFit_keeps s).stepAny stepped, (planInvariant_keeps s).stepAny stepped,
    rows.stepAny stepped, (store_keeps loadInvariant_change fun _ => loadInvariant_reset).stepAny stepped⟩

end Sys2Proof.Machine
end

section
/-! SUPPORT. The letters accounted for: which operations count ENTERED, DELIVERED, LOST and ABANDONED, and which change the letters in the
track (R18, R19, R25, R154). -/

namespace Sys2Proof.Machine

/-! ## The ledger: the four counters and the letters' numbers -/

/-- From s to t the counters of R154 and the numbers in the track stand. -/
def sameLedger (s t : State) : Prop :=
  (∀ i : Fin 64, i.val < 4 → t.tally.live[i] = s.tally.live[i])
    ∧ t.track.letters.map Letter.seq = s.track.letters.map Letter.seq

section
variable {s t u : State}

theorem sameLedger.refl (s : State) : sameLedger s s := ⟨fun _ _ => rfl, rfl⟩

theorem sameLedger.trans (h : sameLedger s t) (k : sameLedger t u) : sameLedger s u :=
  ⟨fun i hi => (k.1 i hi).trans (h.1 i hi), k.2.trans h.2⟩

theorem sameLedger.ofFrame {bs : List Block} (h : changesOnly bs s t) (track : Block.track ∉ bs) (tally : Block.tally ∉ bs) :
    sameLedger s t := by
  have sameTrack : t.track = s.track := h .track track
  have sameTally : t.tally = s.tally := h .tally tally
  exact ⟨fun i _ => by rw [sameTally], by rw [sameTrack]⟩

theorem sameLedger.foldl {α : Type} {f : State → α → State} (h : ∀ s a, sameLedger s (f s a)) (xs : List α) (s : State) :
    sameLedger s (xs.foldl f s) := by
  induction xs generalizing s with
  | nil => exact .refl s
  | cons x xs ih => exact (h s x).trans (ih _)

/-- A track that is changed in other fields than its letters' numbers. -/
theorem sameLedger.ofSeqs {tr : LetterTrack} (h : tr.letters.map Letter.seq = s.track.letters.map Letter.seq) :
    sameLedger s (s.withTrack tr) := ⟨fun _ _ => rfl, h⟩

theorem sameLedger.modifyLetter (q : Seq) {f : Letter → Letter} (h : ∀ l, (f l).seq = l.seq) :
    sameLedger s (modifyLetter q f s) := ⟨fun _ _ => rfl, modifyLetter_seqs s q f h⟩

theorem count_ledger {i : Fin 64} (other : 4 ≤ i.val) (s : State) : sameLedger s (count i s) := by
  refine ⟨fun j hj => ?_, by rw [count_frame s i .track (by decide)]⟩
  rw [count_tally, countLive_get, if_neg]
  rintro rfl
  omega

theorem setFlag_ledger (f : ConditionFlag) (s : State) : sameLedger s (setFlag f s) :=
  .ofFrame (setFlag_frame s f) (by decide) (by decide)

theorem setPrintStatus_ledger (q : Seq) (st : PrintStatus) (s : State) : sameLedger s (setPrintStatus q st s) :=
  .modifyLetter q fun _ => rfl

theorem recordVerdict_ledger (q : Seq) (v : Verdict) (m : Bool) (s : State) : sameLedger s (recordVerdict q v m s) :=
  .modifyLetter q fun _ => rfl

theorem setMode_ledger (m : LaneMode) (s : State) : sameLedger s (setMode m s) := .ofSeqs rfl

theorem setTrailExpected_ledger (e : Bool) (s : State) : sameLedger s (setTrailExpected e s) := .ofSeqs rfl

/-! ## Heads and stackers -/

theorem proceedIfEmpty_ledger (h : Fin 4) (s : State) : sameLedger s (proceedIfEmpty h s) :=
  .ofFrame (proceedIfEmpty_frame s h) (by decide) (by decide)

theorem expireHead_ledger (s : State) (h : Fin 4) : sameLedger s (expireHead h s) := by
  have booked : ∀ (s : State) (b : Booking), sameLedger s (expireBooking s b) := fun s b =>
    (setPrintStatus_ledger b.tag .done s).trans (count_ledger (i := tallyPrinted) (by decide) _)
  unfold expireHead
  dsimp only
  split
  · exact .refl s
  · refine .trans ?_ (proceedIfEmpty_ledger h _)
    exact (sameLedger.ofFrame (modifyHead_frame s h _) (by decide) (by decide)).trans (.foldl booked _ _)

theorem expireBookings_ledger (s : State) : sameLedger s (expireBookings s) := .foldl expireHead_ledger _ s

theorem dropBookings_ledger (h : Fin 4) (s : State) : sameLedger s (dropBookings h s) := by
  have dropped : ∀ (s : State) (b : Booking), sameLedger s (dropBooking s b) := fun s b =>
    (setPrintStatus_ledger b.tag .failed s).trans (count_ledger (i := tallyPrintfail) (by decide) _)
  have all : sameLedger s (s.heads[h].bookings.foldl dropBooking (modifyHead h (fun k => { k with bookings := [] }) s)) :=
    (sameLedger.ofFrame (modifyHead_frame s h _) (by decide) (by decide)).trans (.foldl dropped _ _)
  unfold dropBookings
  dsimp only
  split
  · exact all
  · exact all.trans (setFlag_ledger _ _)

theorem afterFault_ledger (h : Fin 4) (tag : Option Seq) (latched : Bool) (s : State) :
    sameLedger s (afterFault h tag latched s) := by
  have tagged : ∀ q s, sameLedger s (faultTag h q s) := by
    intro q s
    unfold faultTag
    split
    · exact .refl s
    split
    · exact .refl s
    split
    · exact ((setPrintStatus_ledger q .failed s).trans (count_ledger (by decide) _)).trans (setFlag_ledger _ _)
    · exact .refl s
  have start : ∀ u, sameLedger s u → sameLedger s (if latched then setFlag .headlatch u else u) := by
    intro u h
    split
    · exact h.trans (setFlag_ledger _ _)
    · exact h
  unfold afterFault
  dsimp only
  refine start _ ?_
  split
  · exact setFlag_ledger _ _
  · exact (setFlag_ledger _ _).trans (tagged _ _)

theorem modifyHead_ledger (h : Fin 4) (f : Head → Head) (s : State) : sameLedger s (modifyHead h f s) :=
  .ofFrame (modifyHead_frame s h f) (by decide) (by decide)

theorem headfaultReport_ledger (head : Byte) (tag : Option Seq) (s : State) : sameLedger s (headfaultReport head tag s) := by
  unfold headfaultReport
  split
  · unfold headfaultAt
    dsimp only
    split
    · split
      · exact ((dropBookings_ledger _ s).trans (modifyHead_ledger _ _ _)).trans (afterFault_ledger _ _ _ _)
      · exact ((dropBookings_ledger _ s).trans (modifyHead_ledger _ _ _)).trans (afterFault_ledger _ _ _ _)
    · split
      · exact ((dropBookings_ledger _ s).trans (modifyHead_ledger _ _ _)).trans (afterFault_ledger _ _ _ _)
      · exact ((dropBookings_ledger _ s).trans (modifyHead_ledger _ _ _)).trans (afterFault_ledger _ _ _ _)
    · exact (modifyHead_ledger _ _ s).trans (afterFault_ledger _ _ _ _)
    · exact (modifyHead_ledger _ _ s).trans (afterFault_ledger _ _ _ _)
    all_goals exact .refl s
  · exact .refl s

theorem disableHead_ledger (h : Fin 4) (s : State) : sameLedger s (disableHead h s) :=
  (dropBookings_ledger h s).trans (modifyHead_ledger _ _ _)

theorem headAction_ledger (a : HeadAction) (h : Fin 4) (s : State) : sameLedger s (headAction a h s).1 := by
  cases a with
  | enable => exact .ofFrame (enableHead_frame s h) (by decide) (by decide)
  | disable => exact disableHead_ledger h s
  | purge => exact .ofFrame (purgeHead_frame s h) (by decide) (by decide)
  | abortPurge => exact .ofFrame (abortPurgeHead_frame s h) (by decide) (by decide)
  | status => exact .refl s

theorem applyEntry_ledger (s : State) (e : HeadEntry) : sameLedger s (applyEntry s e) := by
  unfold applyEntry
  split
  · exact .ofFrame (enableHead_frame s _) (by decide) (by decide)
  · exact disableHead_ledger _ s

/-! ## Evaluation and decision (R61, R79) -/

theorem startEvaluation_ledger (s : State) : sameLedger s (startEvaluation s) := by
  unfold startEvaluation
  split
  · exact .refl s
  · exact (sameLedger.ofFrame (withEval_frame s _) (by decide) (by decide)).trans (.modifyLetter _ fun _ => rfl)

theorem queueLetter_ledger (q : Seq) (s : State) : sameLedger s (queueLetter q s) := by
  unfold queueLetter
  dsimp only
  have queued := (sameLedger.ofFrame (withEval_frame s { s.eval with queue := s.eval.queue ++ [q] }) (by decide) (by decide)).trans
    (.modifyLetter q (f := fun l => { l with state := .queued }) fun _ => rfl)
  split
  · exact queued
  · exact queued.trans (startEvaluation_ledger _)

theorem releaseSubject_ledger (s : State) : sameLedger s (releaseSubject s) :=
  (sameLedger.ofFrame (withEval_frame s _) (by decide) (by decide)).trans (startEvaluation_ledger _)

theorem writeDisposition_ledger (q : Seq) (d : Disposition) (pr : Option Print) (w : ArrivalWindow) (s : State) :
    sameLedger s (writeDisposition q d pr w s) := .modifyLetter q fun _ => rfl

theorem lateDisposition_ledger (l : Letter) (c : ResidueCause) (s : State) : sameLedger s (lateDisposition l c s) := by
  unfold lateDisposition
  dsimp only
  refine .trans ?_ (setFlag_ledger _ _)
  refine .trans ?_ (count_ledger (by decide) _)
  refine .trans ?_ (.ofFrame (appendPlan_frame _ _ _) (by decide) (by decide))
  refine .trans ?_ (.ofFrame (recomputeLamp_frame _ _) (by decide) (by decide))
  exact (sameLedger.ofFrame (reserve_frame s _) (by decide) (by decide)).trans (writeDisposition_ledger _ _ _ _ _)

theorem stackerPhase_ledger (k : Selection) (p : Path) (c : Option ResidueCause) (s : State) :
    sameLedger s (stackerPhase k p c s).2.2 := by
  have reserved : ∀ n s, sameLedger s (reserve n s) := fun n s => .ofFrame (reserve_frame s n) (by decide) (by decide)
  unfold stackerPhase
  split
  · exact reserved _ s
  · split
    · exact reserved _ s
    · exact (count_ledger (by decide) s).trans (reserved _ _)

theorem printPhase_ledger (l : Letter) (v : Verdict) (g : Gated) (s : State) : sameLedger s (printPhase l v g s).2.2 := by
  unfold printPhase
  split
  · exact .refl s
  · split
    · exact .ofFrame (addBooking_frame s _ _) (by decide) (by decide)
    · exact (count_ledger (by decide) s).trans (setFlag_ledger _ _)

theorem gatePhase_ledger (l : Letter) (k : Selection) (s : State) : sameLedger s (gatePhase l k s).2 := by
  unfold gatePhase
  split
  · exact .refl s
  · exact .refl s
  · exact (count_ledger (by decide) s).trans (setFlag_ledger _ _)

theorem selectRow_spec {ts : Tables} {l : Letter} {v : Verdict} {i : Nat} (h : selectRow ts l v = some i) :
    i < 48 ∧ (rowInForce ts i).enabled = true := by
  have found := List.mem_of_find?_eq_some h
  have matched := List.find?_some h
  simp only [matchesRow, Bool.and_eq_true] at matched
  exact ⟨List.mem_range.mp found, matched.1.1.1.1.1.1⟩

/-- An enabled row that passed its validation names a row tally. -/
theorem goodRouting_tally {r : RoutingRow} (good : goodRouting r = true) (enabled : r.enabled = true) {t : Nat}
    (tally : r.tally = some t) : 37 ≤ t ∧ t ≤ 63 := by
  simp only [goodRouting, enabled, tally, Bool.not_true, Bool.false_or, Bool.and_eq_true, inRange, decide_eq_true_eq] at good
  exact good.2

theorem rowSelection_ledger (l : Letter) (v : Verdict) (good : goodRoutingRows s.store.tables) :
    sameLedger s (rowSelection l v s).2 := by
  unfold rowSelection
  split
  · exact count_ledger (by decide) s
  · next i selected =>
    dsimp only
    split
    · exact .refl s
    · next t tally =>
      obtain ⟨inTable, enabled⟩ := selectRow_spec selected
      obtain ⟨low, high⟩ := goodRouting_tally (good i inTable) enabled tally
      exact count_ledger (by rw [tallyOfRow_val high]; omega) s

theorem commitDecision_ledger (l : Letter) (k : Selection) (g : Gated) (pr : Option (Accepted × Fin 8)) (n : Fin 8)
    (c : Option ResidueCause) (s : State) : sameLedger s (commitDecision l k g pr n c s) := by
  unfold commitDecision
  dsimp only
  refine .trans ?_ (.ofFrame (recomputeLamp_frame _ _) (by decide) (by decide))
  refine .trans ?_ (.ofFrame (joinOrders_frame _ _) (by decide) (by decide))
  have planned := (writeDisposition_ledger l.seq ⟨g.path, n, k.row, c⟩ (printOf pr) (arrivalWindow s n l.leading) s).trans
    (.ofFrame (appendPlan_frame _ l g.path) (by decide) (by decide))
  split
  · exact planned.trans (.ofFrame (withRouting_frame _ _) (by decide) (by decide))
  · exact planned

theorem routingDecision_ledger (l : Letter) (v : Verdict) (good : goodRoutingRows s.store.tables) :
    sameLedger s (routingDecision l v s) := by
  unfold routingDecision
  split
  · exact lateDisposition_ledger l _ s
  · dsimp only
    refine .trans ?_ (commitDecision_ledger _ _ _ _ _ _ _)
    refine .trans ?_ (stackerPhase_ledger _ _ _ _)
    refine .trans ?_ (printPhase_ledger _ _ _ _)
    exact (rowSelection_ledger l v good).trans (gatePhase_ledger _ _ _)

/-! ## Mark kinds (R64, R73) -/

theorem signatureEntry_kind_lt (r : Row) : (signatureEntry r).kind < 16 := by
  have byte : byteAt r 0 < 256 := Nat.mod_lt _ (by decide)
  simp only [signatureEntry]
  omega

theorem stageVerdict_markKind_lt (ts : Tables) (kind : VerdictKind) (cs : List Candidate) :
    (stageVerdict ts kind cs).markKind < 16 := by
  unfold stageVerdict
  split <;> exact signatureEntry_kind_lt _

theorem verdictOf_markKind_lt (ts : Tables) (ws : Vector WindowRecord 8) : (verdictOf ts ws).1.markKind < 16 := by
  unfold verdictOf
  dsimp only
  split
  · exact stageVerdict_markKind_lt _ _ _
  split
  · exact stageVerdict_markKind_lt _ _ _
  · decide

theorem completeSubject_ledger (l : Letter) (good : goodRoutingRows s.store.tables) : sameLedger s (completeSubject l s) := by
  unfold completeSubject
  split
  · exact releaseSubject_ledger s
  · next ws _ =>
    have kind := verdictOf_markKind_lt s.store.tables ws
    dsimp only
    generalize verdictOf s.store.tables ws = v at kind
    have counted : sameLedger s (count (tallyOfKind v.1.markKind) (recordVerdict l.seq v.1 v.2 s)) :=
      (recordVerdict_ledger l.seq v.1 v.2 s).trans (count_ledger (by rw [tallyOfKind_val kind]; omega) _)
    have store : (count (tallyOfKind v.1.markKind) (recordVerdict l.seq v.1 v.2 s)).store = s.store :=
      count_frame _ _ .store (by decide)
    refine .trans ?_ (releaseSubject_ledger _)
    split
    · split
      · exact counted
      · exact counted.trans (routingDecision_ledger _ _ (by rw [store]; exact good))
    · exact counted

theorem completeEvaluation_ledger (good : goodRoutingRows s.store.tables) : sameLedger s (completeEvaluation s) := by
  unfold completeEvaluation
  split
  · exact .refl s
  split
  · exact releaseSubject_ledger s
  split
  · exact releaseSubject_ledger s
  · exact completeSubject_ledger _ good

/-! ## Close, edges and lateness -/

theorem closeLetter_ledger (l : Letter) (L : Nat) (e f : Bool) (s : State) : sameLedger s (closeLetter l L e f s) := by
  have flagged : ∀ (b : Bool) (g : ConditionFlag) (t : State), sameLedger t (if b then setFlag g t else t) := by
    intro b g t
    cases b
    · exact .refl t
    · exact setFlag_ledger g t
  unfold closeLetter
  dsimp only
  refine .trans ?_ (.ofSeqs rfl)
  refine .trans ?_ (flagged _ _ _)
  refine .trans ?_ (.ofFrame (withScan_frame _ _) (by decide) (by decide))
  refine .trans ?_ (flagged _ _ _)
  exact .modifyLetter l.seq fun _ => rfl

theorem leaveState_ledger (l : Letter) (s : State) : sameLedger s (leaveState l s) := by
  unfold leaveState
  split
  · exact (closeLetter_ledger _ _ _ _ s).trans (.ofSeqs rfl)
  · exact .ofFrame (dropFromQueue_frame s _) (by decide) (by decide)
  all_goals exact .refl s

theorem testDeadline_ledger (q : Seq) (s : State) : sameLedger s (testDeadline q s) := by
  unfold testDeadline
  split
  · exact .refl s
  · split
    · rw [declareLate_eq, giveLate]
      split
      · exact leaveState_ledger _ s
      · exact (leaveState_ledger _ s).trans (lateDisposition_ledger _ _ _)
    · exact .refl s

theorem closeOpen_ledger (s : State) : sameLedger s (closeOpen s) := by
  unfold closeOpen
  split
  · exact .refl s
  · exact (closeLetter_ledger _ _ _ _ s).trans (queueLetter_ledger _ _)

theorem looseTrail_ledger (x : Pos) (s : State) : sameLedger s (looseTrail x s) := by
  unfold looseTrail
  dsimp only
  split
  · split
    · exact (sameLedger.ofSeqs rfl).trans (.ofSeqs rfl)
    · exact .ofSeqs rfl
  · split
    · exact (sameLedger.ofSeqs rfl).trans (setFlag_ledger _ _)
    · exact .ofSeqs rfl

theorem trailEdgeAt_ledger (x : Pos) (s : State) : sameLedger s (trailEdgeAt x s) := by
  unfold trailEdgeAt
  split
  · exact (closeLetter_ledger _ _ _ _ s).trans (queueLetter_ledger _ _)
  · exact looseTrail_ledger x s

theorem refuseLead_ledger (s : State) : sameLedger s (refuseLead s) :=
  (((count_ledger (by decide) s).trans (setFlag_ledger _ _)).trans
    (.ofFrame (sendHalt_frame _ _) (by decide) (by decide))).trans (.ofSeqs rfl)

theorem stackerShare_ledger (l : Letter) (c : Retirement) (s : State) : sameLedger s (stackerShare l c s) := by
  have lamp : ∀ n s, sameLedger s (recomputeLamp n s) := fun n s => .ofFrame (recomputeLamp_frame s n) (by decide) (by decide)
  have from_ : ∀ n s, sameLedger s (retireFrom n c s) := fun n s => .ofFrame (retireFrom_frame s n c) (by decide) (by decide)
  unfold stackerShare
  split
  · exact .refl s
  · next d _ =>
    dsimp only
    split
    · refine ((from_ d.stacker s).trans (count_ledger ?_ _)).trans (lamp _ _)
      show 4 ≤ 29 + d.stacker.val
      omega
    · exact ((from_ d.stacker s).trans (setFlag_ledger _ _)).trans (lamp _ _)
    · exact from_ d.stacker s

theorem drainIfEmpty_ledger (s : State) : sameLedger s (drainIfEmpty s) := by
  unfold drainIfEmpty
  split
  · exact ⟨fun _ _ => rfl, rfl⟩
  · exact .refl s

end

/-! ## A free number (R18) -/

/-- The number tried last: every one before it is held, and it is free unless the fuel ran out. -/
theorem freeNumber_spec (letters : List Letter) (fuel : Nat) (n : Seq) :
    ∃ k ≤ fuel, freeNumber letters fuel n = n + BitVec.ofNat 16 k
      ∧ (∀ j < k, n + BitVec.ofNat 16 j ∈ letters.map Letter.seq)
      ∧ (k < fuel → n + BitVec.ofNat 16 k ∉ letters.map Letter.seq) := by
  induction fuel generalizing n with
  | zero => exact ⟨0, le_rfl, by simp [freeNumber], by simp, by simp⟩
  | succ fuel ih =>
    by_cases held : n ∈ letters.map Letter.seq
    · obtain ⟨k, few, number, before, free⟩ := ih (n + 1)
      have shift : ∀ j, n + 1 + BitVec.ofNat 16 j = n + BitVec.ofNat 16 (j + 1) := by
        intro j
        rw [BitVec.ofNat_add, BitVec.add_assoc]
        exact congrArg (n + ·) (BitVec.add_comm _ _)
      have held' : letters.any (fun l => decide (l.seq = n)) = true := by simpa using held
      refine ⟨k + 1, by omega, by rw [freeNumber, if_pos held', number, shift], fun j hj => ?_, fun hk => ?_⟩
      · cases j with
        | zero => simpa using held
        | succ j =>
          rw [← shift]
          exact before j (by omega)
      · rw [← shift]
        exact free (by omega)
    · have free : letters.any (fun l => decide (l.seq = n)) = false := by simpa using held
      exact ⟨0, by omega, by simp [freeNumber, free], by simp, fun _ => by simpa using held⟩

/-- Among as many numbers as letters and one more, one is free: the number of a new letter is held by none. -/
theorem freeNumber_free {letters : List Letter} (few : letters.length < 65536) (n : Seq) :
    freeNumber letters letters.length n ∉ letters.map Letter.seq := by
  obtain ⟨k, hk, number, before, free⟩ := freeNumber_spec letters letters.length n
  rw [number]
  by_cases out : k < letters.length
  · exact free out
  · obtain rfl : k = letters.length := by omega
    intro held
    have distinct : ((List.range (letters.length + 1)).map fun j => n + BitVec.ofNat 16 j).Nodup := by
      refine List.Nodup.map_on (fun i hi j hj e => ?_) List.nodup_range
      have same := congrArg BitVec.toNat (BitVec.add_right_inj n |>.mp e)
      simp only [BitVec.toNat_ofNat, List.mem_range] at same hi hj
      omega
    have within : ∀ q ∈ (List.range (letters.length + 1)).map fun j => n + BitVec.ofNat 16 j, q ∈ letters.map Letter.seq := by
      intro q hq
      obtain ⟨j, hj, rfl⟩ := List.mem_map.mp hq
      rcases Nat.lt_succ_iff_lt_or_eq.mp (List.mem_range.mp hj) with lt | rfl
      · exact before j lt
      · exact held
    have fewer := (List.subperm_of_subset distinct within).length_le
    simp only [List.length_map, List.length_range] at fewer
    omega

/-! ## The balance (R154) -/

/-- ENTERED less DELIVERED, LOST and ABANDONED and less the letters in the track, modulo 2^32. -/
def balance (s : State) : BitVec 32 :=
  s.tally.live[(0 : Fin 64)] - s.tally.live[(1 : Fin 64)] - s.tally.live[(2 : Fin 64)] - s.tally.live[(3 : Fin 64)]
    - BitVec.ofNat 32 s.track.letters.length

/-- The letters are accounted for: the balance is b, the numbers are distinct and the ROUTING rows validated. -/
def accounted (b : BitVec 32) (s : State) : Prop :=
  balance s = b ∧ (s.track.letters.map Letter.seq).Nodup ∧ goodRoutingRows s.store.tables

section
variable {s t : State} {b : BitVec 32}

theorem balance_of_ledger (h : sameLedger s t) : balance t = balance s := by
  have length : t.track.letters.length = s.track.letters.length := by simpa using congrArg List.length h.2
  rw [balance, balance, length, h.1 0 (by decide), h.1 1 (by decide), h.1 2 (by decide), h.1 3 (by decide)]

theorem accounted.ofLedger (a : accounted b s) (h : sameLedger s t) (store : t.store = s.store) : accounted b t :=
  ⟨(balance_of_ledger h).trans a.1, h.2 ▸ a.2.1, store ▸ a.2.2⟩

theorem removeLetter_length (nodup : (s.track.letters.map Letter.seq).Nodup) {l : Letter} (mem : l ∈ s.track.letters) :
    (removeLetter l.seq s).track.letters.length + 1 = s.track.letters.length := by
  rw [removeLetter_letters]
  generalize s.track.letters = ls at nodup mem
  induction ls with
  | nil => cases mem
  | cons k ks ih =>
    obtain ⟨notIn, nodup'⟩ := List.nodup_cons.mp nodup
    rcases List.mem_cons.mp mem with rfl | mem'
    · have all : ks.filter (fun k => decide (k.seq ≠ l.seq)) = ks :=
        List.filter_eq_self.mpr fun k hk => decide_eq_true fun e => notIn (List.mem_map.mpr ⟨k, hk, e⟩)
      rw [List.filter_cons_of_neg (by simp), all]
      rfl
    · have other : k.seq ≠ l.seq := fun e => notIn (e ▸ List.mem_map_of_mem mem')
      rw [List.filter_cons_of_pos (by simpa using other), List.length_cons, ih nodup' mem']
      rfl

/-- A retirement takes one letter from the track and counts it. -/
theorem accounted.retire (a : accounted b s) {l : Letter} (mem : l ∈ s.track.letters) {c : Retirement} :
    accounted b (retire l c s) := by
  obtain ⟨bal, nodup, good⟩ := a
  have counted : accounted b (count (tallyOfRetirement c) (removeLetter l.seq s)) := by
    refine ⟨?_, ?_, ?_⟩
    · have length := removeLetter_length nodup mem
      have track : (count (tallyOfRetirement c) (removeLetter l.seq s)).track = (removeLetter l.seq s).track :=
        count_frame _ _ .track (by decide)
      rw [← bal, balance, balance, track, count_tally, ← length, BitVec.ofNat_add]
      simp only [countLive_get]
      have same : (removeLetter l.seq s).tally = s.tally := rfl
      rw [same]
      cases c <;> simp only [tallyOfRetirement] <;> simp <;> ring
    · rw [count_frame _ _ .track (by decide), removeLetter_letters]
      exact nodup.sublist (List.filter_sublist.map _)
    · rw [count_frame _ _ .store (by decide)]
      exact good
  unfold Machine.retire
  dsimp only
  have shared := counted.ofLedger (stackerShare_ledger l c _) (stackerShare_frame _ l c .store (by decide))
  have booked := shared.ofLedger (.ofFrame (removeBooking_frame _ l.seq) (by decide) (by decide))
    (removeBooking_frame _ l.seq .store (by decide))
  have forgotten := booked.ofLedger (.ofFrame (forgetSubject_frame _ l.seq) (by decide) (by decide))
    (forgetSubject_frame _ l.seq .store (by decide))
  exact forgotten.ofLedger (drainIfEmpty_ledger _) (drainIfEmpty_frame _ .store (by decide))

theorem accounted.admitted (a : accounted b s) (room : s.track.letters.length < trackCapacity) (x : Pos) :
    accounted b (admitLetter x s) := by
  obtain ⟨bal, nodup, good⟩ := a
  have small : s.track.letters.length < 65536 := Nat.lt_trans room (by decide)
  unfold admitLetter
  dsimp only
  generalize number : freeNumber s.track.letters s.track.letters.length s.track.seqCounter = q
  have free : q ∉ s.track.letters.map Letter.seq := number ▸ freeNumber_free small _
  generalize joined : s.withTrack { s.track with letters := s.track.letters ++ [newLetter s q x], seqCounter := q + 1 } = u
  have letters : u.track.letters = s.track.letters ++ [newLetter s q x] := joined ▸ rfl
  have tally : u.tally = s.tally := joined ▸ rfl
  have store : u.store = s.store := joined ▸ rfl
  refine ⟨?_, ?_, ?_⟩
  · have length : (count tallyEntered u).track.letters.length = s.track.letters.length + 1 := by
      rw [count_frame _ _ .track (by decide), letters, List.length_append, List.length_singleton]
    rw [← bal, balance, balance, State.withScan_track, length, State.withScan_tally, count_tally, tally, BitVec.ofNat_add]
    simp only [countLive_get, tallyEntered]
    simp
    ring
  · rw [State.withScan_track, count_frame _ _ .track (by decide), letters, List.map_append]
    exact List.nodup_append.mpr ⟨nodup, by simp, fun p hp r hr e => free (by
      rw [e, List.mem_singleton.mp hr] at hp
      exact hp)⟩
  · rw [State.withScan_store, count_frame _ _ .store (by decide), store]
    exact good

/-! ## Abandonment (R25, R38) -/

/-- ABANDONED counted once for each letter, and nothing else. -/
def countAbandoned (ls : List Letter) (t : TallyUnit) : TallyUnit := ls.foldl (fun t _ => countLive t (tallyOfRetirement .abandoned)) t

theorem countAbandoned_live (ls : List Letter) (t : TallyUnit) (j : Fin 64) :
    (countAbandoned ls t).live[j] = if j = 3 then t.live[j] + BitVec.ofNat 32 ls.length else t.live[j] := by
  induction ls generalizing t with
  | nil => simp [countAbandoned]
  | cons l ls ih =>
    have first : countAbandoned (l :: ls) t = countAbandoned ls (countLive t (tallyOfRetirement .abandoned)) := rfl
    have third : tallyOfRetirement .abandoned = 3 := rfl
    rw [first, ih, countLive_get, third]
    split
    · rw [List.length_cons, BitVec.ofNat_add, BitVec.add_assoc]
      exact congrArg (t.live[j] + ·) (BitVec.add_comm _ _)
    · rfl

/-- A count that reaches the live counters as any count does. -/
theorem abandonLetters_tally {tally : Fin 64 → State → State} (counts : ∀ i s, (tally i s).tally = countLive s.tally i) (s : State) :
    (abandonLetters tally s).tally = countAbandoned s.track.letters s.tally := by
  have one : ∀ (s : State) (l : Letter), (abandonLetter tally s l).tally = countLive s.tally (tallyOfRetirement .abandoned) := by
    intro s l
    unfold abandonLetter
    dsimp only
    split
    · exact counts _ s
    · exact counts _ s
  have all : ∀ (ls : List Letter) (s : State), (ls.foldl (abandonLetter tally) s).tally = countAbandoned ls s.tally := by
    intro ls
    induction ls with
    | nil => exact fun _ => rfl
    | cons l ls ih =>
      intro s
      rw [List.foldl_cons, ih, one]
      rfl
  exact all _ _

theorem abandonLetters_letters {tally : Fin 64 → State → State} (track : ∀ i s, (tally i s).track = s.track) (s : State) :
    (abandonLetters tally s).track = { s.track with
      letters := [], lastTrailing := none, trailExpected := s.track.letters.any fun l => decide (l.state = .opened) } := by
  have one : ∀ (s : State) (l : Letter), (abandonLetter tally s l).track = s.track := by
    intro s l
    unfold abandonLetter
    dsimp only
    split
    · exact track _ s
    · exact track _ s
  have all : ∀ (ls : List Letter) (s : State), (ls.foldl (abandonLetter tally) s).track = s.track := by
    intro ls
    induction ls with
    | nil => exact fun _ => rfl
    | cons l ls ih =>
      intro s
      rw [List.foldl_cons, ih, one]
  exact all _ _

/-- A state with an empty track whose ABANDONED has counted the letters of s. -/
theorem accounted.abandoned (a : accounted b s) (empty : t.track.letters = [])
    (tally : t.tally = countAbandoned s.track.letters s.tally) (good : goodRoutingRows t.store.tables) : accounted b t := by
  refine ⟨?_, by simp [empty], good⟩
  rw [← a.1, balance, balance, empty, tally]
  simp only [countAbandoned_live]
  simp
  ring

theorem accounted.enterStopped (a : accounted b s) : accounted b (enterStopped s) := by
  have letters := abandonLetters_letters (tally := count) (fun i s => count_frame s i .track (by decide)) s
  have tally := abandonLetters_tally (tally := count) (fun i s => count_tally s i) s
  have after : accounted b (abandonLetters count s) :=
    a.abandoned (by rw [letters]) tally (by rw [abandonLetters_frame s .store (by decide)]; exact a.2.2)
  have lamps := after.ofLedger (.ofFrame (recomputeLamps_frame _) (by decide) (by decide)) (recomputeLamps_frame _ .store (by decide))
  have bookings := lamps.ofLedger (.ofFrame (emptyBookings_frame _) (by decide) (by decide)) (emptyBookings_frame _ .store (by decide))
  unfold Machine.enterStopped
  exact bookings.ofLedger (setMode_ledger _ _) (setMode_frame _ _ .store (by decide))

theorem accounted.laneReset (a : accounted b s) (src : Station) : accounted b (laneReset src s) := by
  have letters := abandonLetters_letters (tally := countQuiet) (fun _ _ => rfl) s
  have tally := abandonLetters_tally (tally := countQuiet) (fun _ _ => rfl) s
  have blocks : accounted b (resetBlocks s) := by
    have blockTrack : (resetBlocks s).track.letters = [] := congrArg LetterTrack.letters letters
    refine a.abandoned blockTrack tally ?_
    have store : (resetBlocks s).store.tables = (abandonLetters countQuiet s).store.tables := rfl
    rw [store, abandonLettersQuiet_frame s .store (by decide)]
    exact a.2.2
  have answered : accounted b (resetAnswered src s) := by
    have emptied := blocks.ofLedger (.ofFrame (withRing_frame _ (resetRing (resetBlocks s).ring)) (by decide) (by decide))
      (State.withRing_store _ _)
    unfold resetAnswered
    exact emptied.ofLedger (.ofFrame (joinAnswer_frame _ _) (by decide) (by decide)) (joinAnswer_frame _ _ .store (by decide))
  have lamps : accounted b (resynced (resetAnswered src s)) := by
    have frame := changesOnly.foldl resyncLamp_frame (List.finRange 8) (resetAnswered src s)
    exact answered.ofLedger (.ofFrame frame (by decide) (by decide)) (frame .store (by decide))
  rw [laneReset_eq]
  exact lamps.ofLedger (.ofFrame (withCond_frame _ _) (by decide) (by decide)) (State.withCond_store _ _)

/-! ## The events of a step -/

theorem accounted.takePosition (a : accounted b s) (x : Pos) : accounted b (takePosition x s) := by
  refine takePosition_keeps (P := accounted b) ?_ ?_ ?_ ?_ ?_ ?_ x a
  · exact fun s x a => a.ofLedger (.ofFrame (withPosition_frame s _) (by decide) (by decide)) rfl
  · exact fun s n a => a.ofLedger (.ofFrame (withChoices_frame s _) (by decide) (by decide)) rfl
  · exact fun s a => a.ofLedger (.ofFrame (retirePlan_frame s) (by decide) (by decide)) rfl
  · exact fun s a => a.ofLedger (expireBookings_ledger s) (expireBookings_frame s .store (by decide))
  · exact fun q s a => a.ofLedger (testDeadline_ledger q s) (testDeadline_frame s q .store (by decide))
  · intro q s a
    unfold testWindowEnd
    split
    · exact a
    · next l found =>
      split
      · exact a.retire (findLetter_spec s found).1
      · exact a

theorem accounted.leadEdgeAt (a : accounted b s) (x : Pos) : accounted b (leadEdgeAt x s) := by
  cases runs : laneRuns s.track.mode with
  | false =>
    rw [leadEdgeAt_stopped runs]
    have counted := a.ofLedger (count_ledger (i := tallyUntracked) (by decide) s) (count_frame s _ .store (by decide))
    exact counted.ofLedger (setTrailExpected_ledger _ _) (setTrailExpected_frame _ _ .store (by decide))
  | true =>
    rw [leadEdgeAt_running runs, takeLead]
    have closedStore : (closeOpen s).store = s.store := by
      unfold closeOpen
      split
      · rfl
      · exact (queueLetter_frame _ _ .store (by decide)).trans (closeEdgelost_frame _ _ .store (by decide))
    have closed : accounted b (setTrailExpected false (closeOpen s)) :=
      (a.ofLedger (closeOpen_ledger s) closedStore).ofLedger (setTrailExpected_ledger _ _) (setTrailExpected_frame _ _ .store (by decide))
    split
    · next room => exact closed.admitted room x
    · exact closed.ofLedger (refuseLead_ledger _) (refuseLead_frame _ .store (by decide))

theorem accounted.takeMessage (a : accounted b s) (src : Station) (m : Message) (other : ∀ code args, m ≠ .ask code args) :
    accounted b (takeMessage src m s) := by
  have taken := a.takePosition
  cases m with
  | tick x => exact taken x
  | leadEdge x => exact (taken x).leadEdgeAt x
  | trailEdge x => exact (taken x).ofLedger (trailEdgeAt_ledger x _) (trailEdgeAt_frame _ x .store (by decide))
  | line h x w => exact (taken x).ofLedger (.ofFrame (takeLine_frame _ h x w) (by decide) (by decide)) rfl
  | arrive n x =>
    rw [Machine.takeMessage, arriveReport]
    split
    · unfold arriveAt
      split
      · next l found => exact a.retire (List.mem_of_find?_eq_some found)
      · have counted := a.ofLedger (count_ledger (i := tallyStray) (by decide) s) (count_frame s _ .store (by decide))
        exact counted.ofLedger (setFlag_ledger _ _) (setFlag_frame _ _ .store (by decide))
    · exact a.ofLedger (.ofFrame (countStrayReport_frame s) (by decide) (by decide)) rfl
  | swept n => exact a.ofLedger (.ofFrame (sweptReport_frame s n) (by decide) (by decide)) (sweptReport_frame s n .store (by decide))
  | headfault h t => exact a.ofLedger (headfaultReport_ledger h t s) (headfaultReport_frame s h t .store (by decide))
  | purgedone h o =>
    exact a.ofLedger (.ofFrame (purgedoneReport_frame s h o) (by decide) (by decide)) (purgedoneReport_frame s h o .store (by decide))
  | ask code args => exact absurd rfl (other code args)

theorem accounted.applyMode (a : accounted b s) (m : LaneMode) : accounted b (applyMode m s) := by
  cases m with
  | stopped => exact a.enterStopped
  | running => exact a.ofLedger (.ofSeqs rfl) rfl
  | service => exact a.ofLedger (.ofSeqs rfl) rfl
  | draining =>
    have set : accounted b (setMode .draining s) := a.ofLedger (.ofSeqs rfl) rfl
    exact set.ofLedger (drainIfEmpty_ledger _) (drainIfEmpty_frame _ .store (by decide))

theorem serveHeadControl_ledger (h act : Byte) (s : State) : sameLedger s (serveHeadControl h act s).state := by
  unfold serveHeadControl
  split
  · split
    · exact .refl s
    · exact headAction_ledger _ _ s
  · exact .refl s

theorem serve_ledger_or_mode {code : Byte} {args : List Byte} {f : State → Served} (form : ServiceForm code args f)
    (notFreeze : code ≠ 0x0C) (s : State) :
    sameLedger s (f s).state ∨ ∃ target entries, f = serveMode target entries := by
  have whole := form.writes s
  cases form with
  | badLength | unknown => exact .inl (.refl s)
  | mode t es => exact .inr ⟨t, es, rfl⟩
  | tallyFreeze => exact absurd rfl notFreeze
  | tallyRead k start =>
    left
    by_cases refused : tallyReadRefused k.toNat start (tallyReadStart start s.tally)
    · rw [serveTallyRead_of_refused s refused]
      exact .refl s
    · rw [serveTallyRead_of_granted s rfl refused]
      exact ⟨fun _ _ => rfl, rfl⟩
  | headControl h act => exact .inl (serveHeadControl_ledger h act s)
  | trackRead | trackReadFrom => exact .inl ⟨fun _ _ => rfl, rfl⟩
  | _ => exact .inl (.ofFrame whole (by decide) (by decide))

theorem accounted.serve (a : accounted b s) {code : Byte} (args : List Byte) (notFreeze : code ≠ 0x0C) :
    accounted b (serve code args s).state := by
  have rows : goodRoutingRows (Machine.serve code args s).state.store.tables := goodRoutingRows_change (serve_store code args s) a.2.2
  have form := serve_form code args
  generalize Machine.serve code args = f at form rows
  rcases serve_ledger_or_mode form notFreeze s with ledger | ⟨target, entries, rfl⟩
  · exact ⟨(balance_of_ledger ledger).trans a.1, ledger.2 ▸ a.2.1, rows⟩
  · refine serveMode_keeps (P := accounted b) (fun s a => ?_) (fun m _ _ a => a.applyMode m) (fun e s a => ?_) _ _ a
    · exact a.ofLedger (setFlag_ledger _ s) (setFlag_frame s _ .store (by decide))
    · exact a.ofLedger (applyEntry_ledger s e) (applyEntry_frame s e .store (by decide))

end

theorem accounted_keeps (start : State) (b : BitVec 32) (notReset : ¬atPowerOnReset start) :
    StepKeeps start (· ≠ 0x0C) (accounted b) where
  ring s r _ a := a.ofLedger (.ofFrame (withRing_frame s r) (by decide) (by decide)) rfl
  pending s l a := a.ofLedger (.ofFrame (withPending_frame s l) (by decide) (by decide)) rfl
  flag s f a := a.ofLedger (setFlag_ledger f s) (setFlag_frame s f .store (by decide))
  message src m _ _ other a := a.takeMessage src m other
  serve _ args _ notFreeze a := a.serve args notFreeze
  laneReset src _ a := a.laneReset src
  powerOn k rest e := absurd ⟨k, rest, e⟩ notReset
  period s a := a.ofLedger (.ofFrame (timebaseTick_frame s) (by decide) (by decide)) (timebaseTick_frame s .store (by decide))
  evaluation s a := a.ofLedger (completeEvaluation_ledger a.2.2) (completeEvaluation_frame s .store (by decide))
  restart k s a := a.ofLedger (.ofFrame (restartExpiry_frame s k) (by decide) (by decide)) (restartExpiry_frame s k .store (by decide))
  window k s a := a.ofLedger (.ofFrame (windowExpiry_frame s k) (by decide) (by decide)) (windowExpiry_frame s k .store (by decide))
  purge k s a := a.ofLedger (.ofFrame (purgeExpiry_frame s k) (by decide) (by decide)) (purgeExpiry_frame s k .store (by decide))
  second s a := a.ofLedger (.ofFrame (secondEventAt_frame s) (by decide) (by decide)) rfl
  release s a := a.ofLedger (.ofFrame (releaseReset_frame s) (by decide) (by decide)) (releaseReset_frame s .store (by decide))

/-- Settles O58. -/
theorem lettersAccountedFor : Obligations.LettersAccountedFor := by
  intro s t stepped nodup rows notReset intake front
  refine ((accounted_keeps s (balance s) notReset).step intake ?_ stepped ⟨rfl, nodup, rows⟩).1
  rintro code args ⟨c, rest, f, pending, stands, said⟩ rfl
  obtain ⟨kind, payload⟩ := (messageOf_iff f.kind f.payload _).mp said
  exact front c f (by rw [pending]; rfl) stands kind (by rw [payload]; rfl)

end Sys2Proof.Machine
end

section
/-! SUPPORT. The lane as the invariants of track, evaluation, stackers and mode see it: each letter reduced to what they read of it, and
the moves that a step can make (R15 to R20, R58 to R63, R127, R130). -/

namespace Sys2Proof.Machine

/-! ## The view of a state -/

/-- A letter as the invariants see it: `closed` with a length and windows, `stacker` that of its disposition. -/
structure LetterCard where
  seq : Seq
  leading : Pos
  state : LetterState
  closed : Bool
  stacker : Option (Fin 8)
  windowed : Bool

/-- The card of a letter. -/
def cardOf (l : Letter) : LetterCard :=
  ⟨l.seq, l.leading, l.state, l.length.isSome && l.windows.isSome, l.disposition.map Disposition.stacker, l.window.isSome⟩

/-- A lane as the invariants see it. -/
structure LaneView where
  cards : List LetterCard
  context : Option (Seq × Pos)
  eval : EvaluationUnit
  inFlight : Vector Nat 8
  mode : LaneMode

/-- The view of a state. -/
def laneView (s : State) : LaneView :=
  ⟨s.track.letters.map cardOf, s.scan.context.map fun c => (c.seq, c.leading), s.eval, s.stackers.map Stacker.inFlight,
    s.track.mode⟩

namespace LaneView

/-- The numbers of the QUEUED letters in track order. -/
def queued (v : LaneView) : List Seq := (v.cards.filter fun c => decide (c.state = .queued)).map LetterCard.seq

/-- The letters routed to stacker n. -/
def routedTo (v : LaneView) (n : Fin 8) : List LetterCard := v.cards.filter fun c => decide (c.stacker = some n)

/-- The lane is in agreement, but that an IDLE evaluation unit may have letters in its queue: a letter has joined it and no evaluation
has started yet. -/
structure Agrees (v : LaneView) : Prop where
  few : v.cards.length ≤ trackCapacity
  nodup : (v.cards.map LetterCard.seq).Nodup
  youngest : ∀ c ∈ v.cards.dropLast, c.state ≠ .opened
  context : ((v.cards.find? fun c => decide (c.state = .opened)).map fun c => (c.seq, c.leading)) = v.context
  closed : ∀ c ∈ v.cards, c.state ≠ .opened → c.closed = true
  routed : ∀ c ∈ v.cards, c.stacker.isSome = decide (c.state = .routed) ∧ c.windowed = decide (c.state = .routed)
  queue : v.eval.queue = v.queued
  unoccupied : v.eval.busy = false → v.eval.subject = none
  subject : ∀ q, v.eval.subject = some q → ∃ c ∈ v.cards, c.seq = q ∧ (c.state = .evaluating ∨ c.state = .routed)
  evaluating : ∀ c ∈ v.cards, c.state = .evaluating → v.eval.subject = some c.seq
  counts : ∀ n : Fin 8, v.inFlight[n] = (v.routedTo n).length
  empty : laneRuns v.mode = false → v.cards = []
  drains : v.mode = .draining → v.cards ≠ []

end LaneView

/-- The four invariants, of a view. -/
def laneAgrees (v : LaneView) : Prop := v.Agrees ∧ (v.eval.busy = false → v.eval.queue = [])

theorem laneAgrees_iff (s : State) :
    (trackInvariant s ∧ evalInvariant s ∧ stackerInvariant s ∧ modeInvariant s) ↔ laneAgrees (laneView s) := by
  have queued : (laneView s).queued = queuedNumbers s := by
    simp only [LaneView.queued, laneView, queuedNumbers, List.filter_map, List.map_map]
    rfl
  have opened : (((laneView s).cards.find? fun c => decide (c.state = .opened)).map fun c => (c.seq, c.leading))
      = (openLetter s).map fun l => (l.seq, l.leading) := by
    simp only [laneView, openLetter, List.find?_map, Option.map_map]
    rfl
  have routedTo : ∀ n, ((laneView s).routedTo n).length = (lettersTo s n).length := by
    intro n
    simp only [LaneView.routedTo, laneView, List.filter_map, List.length_map, lettersTo]
    refine congrArg List.length (List.filter_congr fun l _ => ?_)
    cases e : l.disposition <;> simp [cardOf, e]
  have inFlight : ∀ n : Fin 8, (laneView s).inFlight[n] = s.stackers[n].inFlight := fun n => by simp [laneView]
  have cards : ∀ {P : LetterCard → Prop}, (∀ c ∈ (laneView s).cards, P c) ↔ ∀ l ∈ s.track.letters, P (cardOf l) := by
    intro P
    simp [laneView]
  have dropped : ∀ {P : LetterCard → Prop},
      (∀ c ∈ (laneView s).cards.dropLast, P c) ↔ ∀ l ∈ s.track.letters.dropLast, P (cardOf l) := by
    intro P
    simp [laneView, ← List.map_dropLast]
  constructor
  · rintro ⟨⟨few, nodup, youngest, context, closed, routed⟩, ⟨queue, idle, subject, evaluating⟩, counts, empty, drains⟩
    refine ⟨⟨?_, ?_, dropped.mpr youngest, opened.trans context, cards.mpr fun l hl e => ?_, cards.mpr fun l hl => ?_, ?_,
      fun e => (idle e).2, fun q e => ?_, cards.mpr evaluating, fun n => ?_, fun e => ?_, fun e h => ?_⟩, fun e => (idle e).1⟩
    · simpa [laneView] using few
    · simpa [laneView, cardOf, Function.comp_def] using nodup
    · simpa [cardOf] using closed l hl e
    · exact ⟨(Option.isSome_map ..).trans (routed l hl).1, (routed l hl).2⟩
    · exact queue.trans queued.symm
    · obtain ⟨l, hl, number, state⟩ := subject q e
      exact ⟨cardOf l, List.mem_map_of_mem hl, number, state⟩
    · rw [inFlight, counts, routedTo]
    · simpa [laneView] using empty e
    · exact drains e (by simpa [laneView] using h)
  · rintro ⟨⟨few, nodup, youngest, context, closed, routed, queue, unoccupied, subject, evaluating, counts, empty, drains⟩, idle⟩
    refine ⟨⟨?_, ?_, dropped.mp youngest, opened.symm.trans context, fun l hl e => ?_, fun l hl => ?_⟩,
      ⟨queue.trans queued, fun e => ⟨idle e, unoccupied e⟩, fun q e => ?_, cards.mp evaluating⟩, fun n => ?_, fun e => ?_,
      fun e h => ?_⟩
    · simpa [laneView] using few
    · simpa [laneView, cardOf, Function.comp_def] using nodup
    · simpa [cardOf] using cards.mp closed l hl e
    · exact ⟨(Option.isSome_map ..).symm.trans (cards.mp routed l hl).1, (cards.mp routed l hl).2⟩
    · obtain ⟨c, hc, number, state⟩ := subject q e
      obtain ⟨l, hl, rfl⟩ := List.mem_map.mp hc
      exact ⟨l, hl, number, state⟩
    · rw [← inFlight, counts, routedTo]
    · simpa [laneView] using empty e
    · exact drains e (by simp [laneView, h])

/-! ## The moves of a view -/

/-- The cards of a number changed. -/
def setCard (q : Seq) (f : LetterCard → LetterCard) (cs : List LetterCard) : List LetterCard :=
  cs.map fun c => if c.seq = q then f c else c

section
variable {q : Seq} {f : LetterCard → LetterCard} {cs : List LetterCard}

theorem setCard_seqs (keeps : ∀ c, (f c).seq = c.seq) : (setCard q f cs).map LetterCard.seq = cs.map LetterCard.seq := by
  rw [setCard, List.map_map]
  refine List.map_congr_left fun c _ => ?_
  simp only [Function.comp]
  split
  · exact keeps c
  · rfl

theorem mem_setCard {c : LetterCard} : c ∈ setCard q f cs ↔ (c ∈ cs ∧ c.seq ≠ q) ∨ ∃ d ∈ cs, d.seq = q ∧ c = f d := by
  constructor
  · intro h
    obtain ⟨d, hd, rfl⟩ := List.mem_map.mp h
    by_cases e : d.seq = q
    · exact .inr ⟨d, hd, e, if_pos e⟩
    · simp only [if_neg e]
      exact .inl ⟨hd, e⟩
  · rintro (⟨hc, e⟩ | ⟨d, hd, e, rfl⟩)
    · exact List.mem_map.mpr ⟨c, hc, if_neg e⟩
    · exact List.mem_map.mpr ⟨d, hd, if_pos e⟩

theorem setCard_congr {g : LetterCard → LetterCard} (h : ∀ c ∈ cs, c.seq = q → f c = g c) : setCard q f cs = setCard q g cs :=
  List.map_congr_left fun c hc => by
    split
    · next e => exact h c hc e
    · rfl

theorem setCard_setCard {g : LetterCard → LetterCard} (keeps : ∀ c, (f c).seq = c.seq) :
    setCard q g (setCard q f cs) = setCard q (fun c => g (f c)) cs := by
  rw [setCard, setCard, List.map_map]
  refine List.map_congr_left fun c _ => ?_
  by_cases e : c.seq = q
  · simp [Function.comp, e, keeps]
  · simp [Function.comp, e]

theorem setCard_of_notMem (h : q ∉ cs.map LetterCard.seq) : setCard q f cs = cs :=
  (List.map_congr_left fun c hc => if_neg fun e => h (List.mem_map.mpr ⟨c, hc, e⟩)).trans (List.map_id cs)

/-- A card is the only one of its number. -/
theorem card_unique (nodup : (cs.map LetterCard.seq).Nodup) {c d : LetterCard} (hc : c ∈ cs) (hd : d ∈ cs) (e : c.seq = d.seq) :
    c = d := List.inj_on_of_nodup_map nodup hc hd e

/-- Among the cards of a kind that no card of number q is after a change, the others stand. -/
theorem filter_setCard {p : LetterCard → Bool} (out : ∀ c, c.seq = q → p (f c) = false) :
    (setCard q f cs).filter p = (cs.filter p).filter fun c => decide (c.seq ≠ q) := by
  induction cs with
  | nil => rfl
  | cons c cs ih =>
    have step : setCard q f (c :: cs) = (if c.seq = q then f c else c) :: setCard q f cs := rfl
    rw [step]
    by_cases e : c.seq = q
    · rw [if_pos e, List.filter_cons_of_neg (by simp [out c e]), ih]
      cases h : p c
      · rw [List.filter_cons_of_neg (by simp [h])]
      · rw [List.filter_cons_of_pos h, List.filter_cons_of_neg (by simp [e])]
    · rw [if_neg e]
      cases h : p c
      · rw [List.filter_cons_of_neg (by simp [h]), List.filter_cons_of_neg (by simp [h]), ih]
      · rw [List.filter_cons_of_pos h, List.filter_cons_of_pos h, List.filter_cons_of_pos (by simp [e]), ih]

end

/-- All cards of distinct numbers but one. -/
theorem filter_other_length {cs : List LetterCard} (nodup : (cs.map LetterCard.seq).Nodup) {c : LetterCard} (mem : c ∈ cs) :
    (cs.filter fun d => decide (d.seq ≠ c.seq)).length + 1 = cs.length := by
  induction cs with
  | nil => cases mem
  | cons d ds ih =>
    obtain ⟨notIn, nodup'⟩ := List.nodup_cons.mp nodup
    rcases List.mem_cons.mp mem with rfl | mem'
    · have all : ds.filter (fun d => decide (d.seq ≠ c.seq)) = ds :=
        List.filter_eq_self.mpr fun d hd => decide_eq_true fun e => notIn (List.mem_map.mpr ⟨d, hd, e⟩)
      rw [List.filter_cons_of_neg (by simp), all]
      rfl
    · have other : d.seq ≠ c.seq := fun e => notIn (e ▸ List.mem_map_of_mem mem')
      rw [List.filter_cons_of_pos (by simpa using other), List.length_cons, ih nodup' mem']
      rfl

/-- A vector entry changed. -/
theorem set_get {α : Type} {n : Nat} (v : Vector α n) (i j : Fin n) (x : α) : (v.set i.val x i.isLt)[j] = if j = i then x else v[j] := by
  have get := updateAt_get v i j fun _ => x
  exact get

namespace LaneView

/-- A letter is ROUTED to stacker n: its card, and the stacker's in-flight count (R86, R88, R133). -/
def place (q : Seq) (n : Fin 8) (v : LaneView) : LaneView :=
  { v with
    cards := setCard q (fun c => { c with state := .routed, stacker := some n, windowed := true }) v.cards
    inFlight := v.inFlight.set n.val (v.inFlight[n] + 1) n.isLt }

/-- A letter leaves its state and is ROUTED to stacker n. -/
def route (q : Seq) (n : Fin 8) (v : LaneView) : LaneView :=
  { v with
    cards := setCard q (fun c => { c with state := .routed, closed := true, stacker := some n, windowed := true }) v.cards
    context := if v.context.map Prod.fst = some q then none else v.context
    eval := { v.eval with queue := v.eval.queue.filter fun x => x ≠ q }
    inFlight := v.inFlight.set n.val (v.inFlight[n] + 1) n.isLt }

/-- The OPEN letter is closed and joins the evaluation queue (R59). -/
def enqueue (q : Seq) (v : LaneView) : LaneView :=
  { v with
    cards := setCard q (fun c => { c with state := .queued, closed := true }) v.cards
    context := none
    eval := { v.eval with queue := v.eval.queue ++ [q] } }

/-- An evaluation starts (R60). -/
def start (v : LaneView) : LaneView :=
  match v.eval.queue with
  | [] => v
  | q :: rest => { v with
      cards := setCard q (fun c => { c with state := .evaluating }) v.cards
      eval := { busy := true, subject := some q, queue := rest } }

/-- The evaluation unit is released (R61). -/
def release (v : LaneView) : LaneView := { v with eval := { v.eval with busy := false, subject := none } }

/-- A letter is admitted (R18, R29). -/
def admission (q : Seq) (x : Pos) (v : LaneView) : LaneView :=
  { v with cards := v.cards ++ [⟨q, x, .opened, false, none, false⟩], context := some (q, x) }

/-- A letter routed to stacker n is retired, and a drain completes with the last one (R19, R26). -/
def retire (q : Seq) (n : Fin 8) (v : LaneView) : LaneView :=
  { v with
    cards := v.cards.filter fun c => c.seq ≠ q
    eval := { v.eval with subject := if v.eval.subject = some q then none else v.eval.subject }
    inFlight := v.inFlight.set n.val (v.inFlight[n] - 1) n.isLt
    mode := if v.mode = .draining ∧ (v.cards.filter fun c => c.seq ≠ q) = [] then .stopped else v.mode }

variable {v : LaneView}

namespace Agrees

/-- A letter that is not QUEUED is not in the queue. -/
theorem notMem_queue (a : v.Agrees) {c : LetterCard} (mem : c ∈ v.cards) (other : c.state ≠ .queued) : c.seq ∉ v.eval.queue := by
  rw [a.queue]
  intro h
  obtain ⟨d, hd, e⟩ := List.mem_map.mp h
  obtain ⟨hd', isQueued⟩ := List.mem_filter.mp hd
  exact other (card_unique a.nodup hd' mem e ▸ of_decide_eq_true isQueued)

/-- The scan context is the OPEN letter's. -/
theorem context_of_opened (a : v.Agrees) {c : LetterCard} (mem : c ∈ v.cards) (opened : c.state = .opened) :
    v.cards = v.cards.dropLast ++ [c] ∧ v.context = some (c.seq, c.leading) := by
  have nonempty : v.cards ≠ [] := List.ne_nil_of_mem mem
  have split := List.dropLast_append_getLast nonempty
  have last : c = v.cards.getLast nonempty := by
    rw [← split] at mem
    rcases List.mem_append.mp mem with h | h
    · exact absurd opened (a.youngest c h)
    · exact List.mem_singleton.mp h
  have cards : v.cards = v.cards.dropLast ++ [c] := by rw [last]; exact split.symm
  refine ⟨cards, ?_⟩
  have before : v.cards.dropLast.find? (fun c => decide (c.state = .opened)) = none :=
    List.find?_eq_none.mpr fun d hd => by simpa using a.youngest d hd
  rw [← a.context, cards, List.find?_append, before]
  simp [opened]

theorem context_of_not_opened (a : v.Agrees) {c : LetterCard} (mem : c ∈ v.cards) (other : c.state ≠ .opened) :
    v.context.map Prod.fst ≠ some c.seq := by
  rw [← a.context, Option.map_map]
  intro h
  obtain ⟨d, found, e⟩ := Option.map_eq_some_iff.mp h
  have opened := List.find?_some found
  exact other (card_unique a.nodup (List.mem_of_find?_eq_some found) mem e ▸ of_decide_eq_true opened)

theorem queue_nodup (a : v.Agrees) : v.eval.queue.Nodup := by
  rw [a.queue]
  exact a.nodup.sublist (List.filter_sublist.map _)

/-- The numbers of QUEUED letters after the letter of number q has become something else. -/
theorem queued_setCard {q : Seq} {f : LetterCard → LetterCard} {cs : List LetterCard} (out : ∀ c, (f c).state ≠ .queued) :
    ((setCard q f cs).filter fun c => decide (c.state = .queued)).map LetterCard.seq
      = ((cs.filter fun c => decide (c.state = .queued)).map LetterCard.seq).filter fun x => x ≠ q := by
  rw [filter_setCard fun c _ => decide_eq_false (out c), List.filter_map]
  rfl

/-- The stackers of the letters after the one of number q, until then routed nowhere, is routed to n. -/
theorem routedTo_place (a : v.Agrees) {c : LetterCard} (mem : c ∈ v.cards) (unrouted : c.stacker = none) (n j : Fin 8)
    {f : LetterCard → LetterCard} (stacker : ∀ c, (f c).stacker = some n) :
    ((setCard c.seq f v.cards).filter fun c => decide (c.stacker = some j)).length
      = (v.routedTo j).length + if j = n then 1 else 0 := by
  have nodup := a.nodup
  simp only [routedTo]
  generalize v.cards = cs at mem nodup
  induction cs with
  | nil => cases mem
  | cons d ds ih =>
    obtain ⟨notIn, nodup'⟩ := List.nodup_cons.mp nodup
    have step : setCard c.seq f (d :: ds) = (if d.seq = c.seq then f d else d) :: setCard c.seq f ds := rfl
    rw [step]
    rcases List.mem_cons.mp mem with rfl | mem'
    · rw [if_pos rfl, setCard_of_notMem notIn, List.filter_cons, List.filter_cons]
      by_cases e : n = j
      · simp [stacker, e, unrouted]
      · simp [stacker, e, Ne.symm e, unrouted]
    · have other : d.seq ≠ c.seq := fun e => notIn (e ▸ List.mem_map_of_mem mem')
      rw [if_neg other, List.filter_cons, List.filter_cons]
      have rest := ih mem' nodup'
      split
      · simp only [List.length_cons, rest]
        omega
      · exact rest

theorem route (a : v.Agrees) {c : LetterCard} (mem : c ∈ v.cards) (unrouted : c.state ≠ .routed) (n : Fin 8) :
    (v.route c.seq n).Agrees := by
  have stacker : c.stacker = none := by
    have := (a.routed c mem).1
    simpa [unrouted] using this
  have seqs := setCard_seqs (q := c.seq) (cs := v.cards)
    (f := fun c => { c with state := .routed, closed := true, stacker := some n, windowed := true }) fun _ => rfl
  have members : ∀ {P : LetterCard → Prop}, (∀ d ∈ v.cards, d.seq ≠ c.seq → P d) →
      (∀ d : LetterCard, P { d with state := .routed, closed := true, stacker := some n, windowed := true }) →
      ∀ d ∈ (v.route c.seq n).cards, P d := by
    intro P h k d hd
    rcases mem_setCard.mp hd with ⟨hd', e⟩ | ⟨d', -, -, rfl⟩
    · exact h d hd' e
    · exact k d'
  refine ⟨?_, ?_, ?_, ?_, ?_, ?_, ?_, a.unoccupied, ?_, ?_, ?_, ?_, ?_⟩
  · rw [LaneView.route, setCard, List.length_map]
    exact a.few
  · exact seqs.symm ▸ a.nodup
  · intro d hd
    rw [LaneView.route, setCard, ← List.map_dropLast] at hd
    obtain ⟨d', hd', rfl⟩ := List.mem_map.mp hd
    split
    · simp
    · exact a.youngest d' hd'
  · by_cases opened : c.state = .opened
    · obtain ⟨cards, context⟩ := a.context_of_opened mem opened
      have gone : (v.route c.seq n).cards.find? (fun c => decide (c.state = .opened)) = none := by
        refine List.find?_eq_none.mpr (members (fun d hd other => ?_) fun d => by simp)
        rw [cards] at hd
        rcases List.mem_append.mp hd with h | h
        · simpa using a.youngest d h
        · exact absurd (congrArg LetterCard.seq (List.mem_singleton.mp h)) other
      rw [gone]
      simp [LaneView.route, context]
    · have kept := a.context_of_not_opened mem opened
      have same : (v.route c.seq n).cards.find? (fun c => decide (c.state = .opened))
          = v.cards.find? fun c => decide (c.state = .opened) := by
        have filtered : (v.route c.seq n).cards.filter (fun c => decide (c.state = .opened))
            = v.cards.filter fun c => decide (c.state = .opened) := by
          rw [LaneView.route, filter_setCard (by simp)]
          refine List.filter_eq_self.mpr fun d hd => decide_eq_true fun e => opened ?_
          obtain ⟨hd', isOpen⟩ := List.mem_filter.mp hd
          exact card_unique a.nodup hd' mem e ▸ of_decide_eq_true isOpen
        rw [← List.head?_filter, ← List.head?_filter, filtered]
      rw [same, a.context]
      exact (if_neg kept).symm
  · exact members (fun d hd _ => a.closed d hd) fun d _ => rfl
  · exact members (fun d hd _ => a.routed d hd) fun d => by simp
  · rw [queued, LaneView.route, queued_setCard (by simp)]
    exact congrArg _ a.queue
  · intro q e
    obtain ⟨d, hd, number, state⟩ := a.subject q e
    by_cases same : d.seq = c.seq
    · exact ⟨_, mem_setCard.mpr (.inr ⟨d, hd, same, rfl⟩), number, .inr rfl⟩
    · exact ⟨d, mem_setCard.mpr (.inl ⟨hd, same⟩), number, state⟩
  · exact members (fun d hd _ => a.evaluating d hd) fun d e => by cases e
  · intro j
    rw [routedTo, LaneView.route, a.routedTo_place mem stacker n j fun _ => rfl]
    dsimp only
    rw [set_get]
    split
    · next e => rw [e, a.counts]
    · exact a.counts j
  · intro e
    have none := a.empty e
    rw [LaneView.route, none]
    rfl
  · intro e h
    exact a.drains e (List.map_eq_nil_iff.mp h)

/-- The OPEN letter becomes QUEUED. -/
theorem enqueue (a : v.Agrees) {c : LetterCard} (mem : c ∈ v.cards) (opened : c.state = .opened) : (v.enqueue c.seq).Agrees := by
  obtain ⟨cards, context⟩ := a.context_of_opened mem opened
  have nodup := a.nodup
  rw [cards, List.map_append] at nodup
  have apart : c.seq ∉ v.cards.dropLast.map LetterCard.seq := fun h =>
    (List.nodup_append.mp nodup).2.2 _ h _ (List.mem_singleton_self _) rfl
  have last : (v.enqueue c.seq).cards = v.cards.dropLast ++ [{ c with state := .queued, closed := true }] := by
    have split : setCard c.seq (fun c => { c with state := .queued, closed := true }) v.cards
        = setCard c.seq (fun c => { c with state := .queued, closed := true }) v.cards.dropLast
          ++ setCard c.seq (fun c => { c with state := .queued, closed := true }) [c] := by
      conv => lhs; rw [cards]
      exact List.map_append
    rw [LaneView.enqueue, split, setCard_of_notMem apart]
    simp [setCard]
  have members : ∀ {P : LetterCard → Prop}, (∀ d ∈ v.cards, P d) → P { c with state := .queued, closed := true } →
      ∀ d ∈ (v.enqueue c.seq).cards, P d := by
    intro P h k d hd
    rw [last] at hd
    rcases List.mem_append.mp hd with hd' | hd'
    · exact h d (List.dropLast_subset _ hd')
    · exact List.mem_singleton.mp hd' ▸ k
  have unrouted : c.stacker = none ∧ c.windowed = false := by simpa [opened] using a.routed c mem
  refine ⟨?_, ?_, ?_, ?_, ?_, ?_, ?_, a.unoccupied, ?_, ?_, ?_, ?_, ?_⟩
  · have few := a.few
    rw [cards] at few
    rw [last]
    simpa using few
  · rw [last, List.map_append]
    exact nodup
  · intro d hd
    rw [last, List.dropLast_concat] at hd
    exact a.youngest d hd
  · have gone : (v.enqueue c.seq).cards.find? (fun c => decide (c.state = .opened)) = none := by
      rw [last, List.find?_eq_none]
      intro d hd
      rcases List.mem_append.mp hd with h | h
      · simpa using a.youngest d h
      · simp [List.mem_singleton.mp h]
    rw [gone]
    rfl
  · exact members a.closed fun _ => rfl
  · exact members a.routed (by simp [unrouted])
  · have queuedBefore : v.queued = (v.cards.dropLast.filter fun c => decide (c.state = .queued)).map LetterCard.seq := by
      conv => lhs; rw [queued, cards]
      simp [opened]
    rw [queued, last]
    simp only [List.filter_append, List.map_append, ← queuedBefore]
    exact congrArg (· ++ [c.seq]) a.queue
  · intro q e
    obtain ⟨d, hd, number, state⟩ := a.subject q e
    refine ⟨d, ?_, number, state⟩
    rw [cards] at hd
    rw [last]
    rcases List.mem_append.mp hd with h | h
    · exact List.mem_append_left _ h
    · rw [List.mem_singleton.mp h, opened] at state
      simp at state
  · exact members a.evaluating fun e => by cases e
  · intro j
    have same : (v.enqueue c.seq).routedTo j = v.routedTo j := by
      have before : v.routedTo j = v.cards.dropLast.filter fun c => decide (c.stacker = some j) := by
        conv => lhs; rw [routedTo, cards]
        simp [unrouted]
      rw [before, routedTo, last]
      simp [unrouted]
    rw [same]
    exact a.counts j
  · intro e
    exact absurd (a.empty e) (List.ne_nil_of_mem mem)
  · intro _ h
    rw [last] at h
    simp at h

/-- A unit that is IDLE, with no letter EVALUATING, takes up the head of its queue. -/
theorem start (a : v.Agrees) (idle : v.eval.busy = false) : laneAgrees v.start := by
  unfold LaneView.start
  split
  · next empty => exact ⟨a, fun _ => empty⟩
  · next q rest queue =>
    have noSubject := a.unoccupied idle
    have none : ∀ c ∈ v.cards, c.state ≠ .evaluating := fun c hc e => by
      have := a.evaluating c hc e
      simp [noSubject] at this
    have mem : q ∈ v.queued := by
      rw [← a.queue, queue]
      exact List.mem_cons_self
    obtain ⟨c, hc, rfl⟩ := List.mem_map.mp mem
    obtain ⟨hc', isQueued⟩ := List.mem_filter.mp hc
    have isQueued : c.state = .queued := of_decide_eq_true isQueued
    have unrouted : c.stacker = Option.none ∧ c.windowed = false := by simpa [isQueued] using a.routed c hc'
    have members : ∀ {P : LetterCard → Prop}, (∀ d ∈ v.cards, P d) → P { c with state := .evaluating } →
        ∀ d ∈ setCard c.seq (fun c => { c with state := .evaluating }) v.cards, P d := by
      intro P h k d hd
      rcases mem_setCard.mp hd with ⟨hd', -⟩ | ⟨d', hd', e, rfl⟩
      · exact h d hd'
      · exact card_unique a.nodup hd' hc' e ▸ k
    refine ⟨⟨?_, ?_, ?_, ?_, ?_, ?_, ?_, (fun e => by cases e), ?_, ?_, ?_, ?_, ?_⟩, (fun e => by cases e)⟩
    · simpa [setCard] using a.few
    · rw [setCard_seqs (by simp)]
      exact a.nodup
    · intro d hd
      rw [setCard, ← List.map_dropLast] at hd
      obtain ⟨d', hd', rfl⟩ := List.mem_map.mp hd
      split
      · simp
      · exact a.youngest d' hd'
    · have same : (setCard c.seq (fun c => { c with state := .evaluating }) v.cards).filter (fun c => decide (c.state = .opened))
          = v.cards.filter fun c => decide (c.state = .opened) := by
        rw [filter_setCard (by simp)]
        refine List.filter_eq_self.mpr fun d hd => decide_eq_true fun e => ?_
        obtain ⟨hd', isOpen⟩ := List.mem_filter.mp hd
        have isOpen : d.state = .opened := of_decide_eq_true isOpen
        rw [card_unique a.nodup hd' hc' e, isQueued] at isOpen
        cases isOpen
      dsimp only
      rw [← List.head?_filter, same, List.head?_filter]
      exact a.context
    · exact members a.closed fun _ => a.closed c hc' (by simp [isQueued])
    · exact members a.routed (by simp [unrouted])
    · have nodup := a.queue_nodup
      rw [queue] at nodup
      rw [queued, queued_setCard (by simp)]
      have before : v.cards.filter (fun c => decide (c.state = .queued)) |>.map LetterCard.seq |> (· = c.seq :: rest) :=
        a.queue.symm.trans queue
      rw [before, List.filter_cons_of_neg (by simp)]
      refine (List.filter_eq_self.mpr fun x hx => decide_eq_true ?_).symm
      rintro rfl
      exact (List.nodup_cons.mp nodup).1 hx
    · rintro _ ⟨⟩
      exact ⟨_, mem_setCard.mpr (.inr ⟨c, hc', rfl, rfl⟩), rfl, .inl rfl⟩
    · exact members (fun d hd e => absurd e (none d hd)) fun _ => rfl
    · intro j
      have same : (setCard c.seq (fun c => { c with state := .evaluating }) v.cards).filter (fun c => decide (c.stacker = some j))
          |>.length |> (· = (v.routedTo j).length) := by
        have kept : ∀ cs, ((setCard c.seq (fun c => { c with state := LetterState.evaluating }) cs).filter
            fun c => decide (c.stacker = some j)).length = (cs.filter fun c => decide (c.stacker = some j)).length := by
          intro cs
          rw [setCard, List.filter_map, List.length_map]
          refine congrArg List.length (List.filter_congr fun d _ => ?_)
          simp only [Function.comp]
          split <;> rfl
        exact kept v.cards
      exact (a.counts j).trans same.symm
    · intro e
      exact absurd (a.empty e) (List.ne_nil_of_mem hc')
    · intro _ h
      exact List.ne_nil_of_mem hc' (List.map_eq_nil_iff.mp h)

/-- The unit is released once no letter is EVALUATING. -/
theorem release (a : v.Agrees) (none : ∀ c ∈ v.cards, c.state ≠ .evaluating) : v.release.Agrees :=
  { a with
    unoccupied := fun _ => rfl
    subject := fun _ e => by cases e
    evaluating := fun c hc e => absurd e (none c hc) }

/-- A letter is admitted to a running lane without an OPEN letter. -/
theorem admission (a : v.Agrees) {q : Seq} (free : q ∉ v.cards.map LetterCard.seq) (noneOpen : ∀ c ∈ v.cards, c.state ≠ .opened)
    (room : v.cards.length < trackCapacity) (x : Pos) (runs : laneRuns v.mode = true) : (v.admission q x).Agrees := by
  have members : ∀ {P : LetterCard → Prop}, (∀ d ∈ v.cards, P d) → P ⟨q, x, .opened, false, none, false⟩ →
      ∀ d ∈ (v.admission q x).cards, P d := by
    intro P h k d hd
    rcases List.mem_append.mp hd with hd' | hd'
    · exact h d hd'
    · exact List.mem_singleton.mp hd' ▸ k
  refine ⟨?_, ?_, ?_, ?_, ?_, ?_, ?_, a.unoccupied, ?_, ?_, ?_, ?_, ?_⟩
  · rw [LaneView.admission, List.length_append]
    exact room
  · rw [LaneView.admission, List.map_append]
    refine List.nodup_append.mpr ⟨a.nodup, by simp, fun p hp r hr e => free ?_⟩
    rw [e, List.mem_singleton.mp hr] at hp
    exact hp
  · intro d hd
    rw [LaneView.admission, List.dropLast_concat] at hd
    exact noneOpen d hd
  · have before : v.cards.find? (fun c => decide (c.state = .opened)) = none :=
      List.find?_eq_none.mpr fun d hd => by simpa using noneOpen d hd
    simp [LaneView.admission, before]
  · exact members a.closed fun e => absurd rfl e
  · exact members a.routed (by simp)
  · rw [queued, LaneView.admission]
    simp only [List.filter_append, List.map_append]
    simpa [queued] using a.queue
  · intro q e
    obtain ⟨d, hd, number, state⟩ := a.subject q e
    exact ⟨d, List.mem_append_left _ hd, number, state⟩
  · exact members a.evaluating fun e => by cases e
  · intro j
    have same : (v.admission q x).routedTo j = v.routedTo j := by simp [routedTo, LaneView.admission]
    rw [same]
    exact a.counts j
  · intro e
    exact absurd (runs.symm.trans e) (by decide)
  · intro _ h
    simp [LaneView.admission] at h

/-- A ROUTED letter is retired. -/
theorem retire (a : v.Agrees) {c : LetterCard} (mem : c ∈ v.cards) {n : Fin 8} (routed : c.stacker = some n) :
    (v.retire c.seq n).Agrees := by
  have isRouted : c.state = .routed := by
    have := (a.routed c mem).1
    simpa [routed] using this
  have members : ∀ {P : LetterCard → Prop}, (∀ d ∈ v.cards, P d) → ∀ d ∈ (v.retire c.seq n).cards, P d :=
    fun h d hd => h d (List.mem_filter.mp hd).1
  have same : ∀ {p : LetterCard → Bool}, p c = false → (v.retire c.seq n).cards.filter p = v.cards.filter p := by
    intro p out
    rw [LaneView.retire, List.filter_filter]
    refine List.filter_congr fun d hd => ?_
    by_cases e : d.seq = c.seq
    · rw [card_unique a.nodup hd mem e, out]
      rfl
    · simp [e]
  refine ⟨?_, ?_, ?_, ?_, ?_, ?_, ?_, ?_, ?_, ?_, ?_, ?_, ?_⟩
  · exact (List.length_filter_le _ _).trans a.few
  · exact a.nodup.sublist (List.filter_sublist.map _)
  · intro d hd opened
    obtain ⟨mem', other⟩ := List.mem_filter.mp (List.dropLast_subset _ hd)
    have cards := (a.context_of_opened mem' opened).1
    have last : (v.retire c.seq n).cards = v.cards.dropLast.filter (fun d => decide (d.seq ≠ c.seq)) ++ [d] := by
      have filtered : (v.retire c.seq n).cards = v.cards.filter fun d => decide (d.seq ≠ c.seq) := rfl
      rw [filtered]
      conv => lhs; rw [cards]
      rw [List.filter_append]
      exact congrArg _ (List.filter_cons_of_pos (p := fun d : LetterCard => decide (d.seq ≠ c.seq)) other)
    rw [last, List.dropLast_concat] at hd
    exact a.youngest d (List.mem_filter.mp hd).1 opened
  · rw [← List.head?_filter, same (by simp [isRouted]), List.head?_filter]
    exact a.context
  · exact members a.closed
  · exact members a.routed
  · rw [queued, same (by simp [isRouted])]
    exact a.queue
  · intro idle
    simp [LaneView.retire, a.unoccupied idle]
  · intro q e
    rw [LaneView.retire] at e
    dsimp only at e
    split at e
    · cases e
    · next other =>
      obtain ⟨d, hd, number, state⟩ := a.subject q e
      refine ⟨d, List.mem_filter.mpr ⟨hd, decide_eq_true fun same => other ?_⟩, number, state⟩
      rw [e, ← number, same]
  · intro d hd e
    obtain ⟨hd', other⟩ := List.mem_filter.mp hd
    have subject := a.evaluating d hd' e
    refine (if_neg ?_).trans subject
    rw [subject]
    exact fun same => of_decide_eq_true other (Option.some.inj same)
  · intro j
    have get : (v.retire c.seq n).inFlight[j] = if j = n then v.inFlight[n] - 1 else v.inFlight[j] := set_get _ n j _
    rw [get]
    by_cases e : j = n
    · subst e
      rw [if_pos rfl, a.counts]
      have one : v.routedTo j = (v.cards.filter fun d => decide (d.stacker = some j)) := rfl
      have split : (v.retire c.seq j).routedTo j = (v.routedTo j).filter fun d => decide (d.seq ≠ c.seq) := by
        rw [routedTo, LaneView.retire, List.filter_filter, routedTo, List.filter_filter]
        exact List.filter_congr fun d _ => Bool.and_comm _ _
      have isIn : c ∈ v.routedTo j := List.mem_filter.mpr ⟨mem, decide_eq_true routed⟩
      have erased : (v.routedTo j).filter (fun d => decide (d.seq ≠ c.seq)) |>.length |> (· + 1 = (v.routedTo j).length) := by
        have nodup : ((v.routedTo j).map LetterCard.seq).Nodup := a.nodup.sublist (List.filter_sublist.map _)
        exact filter_other_length nodup isIn
      rw [split]
      omega
    · rw [if_neg e, routedTo, same (by simp [routed, Ne.symm e])]
      exact a.counts j
  · intro e
    by_cases drained : v.mode = .draining ∧ (v.cards.filter fun d => decide (d.seq ≠ c.seq)) = []
    · exact drained.2
    · have mode : (v.retire c.seq n).mode = v.mode := if_neg drained
      rw [mode] at e
      exact absurd (a.empty e) (List.ne_nil_of_mem mem)
  · intro e h
    by_cases drained : v.mode = .draining ∧ (v.cards.filter fun d => decide (d.seq ≠ c.seq)) = []
    · have mode : (v.retire c.seq n).mode = .stopped := if_pos drained
      rw [mode] at e
      cases e
    · have mode : (v.retire c.seq n).mode = v.mode := if_neg drained
      exact drained ⟨mode.symm.trans e, h⟩

end Agrees

/-- A lane without letters agrees, where nothing is left of one. -/
theorem agrees_of_empty (cards : v.cards = []) (context : v.context = none) (queue : v.eval.queue = []) (subject : v.eval.subject = none)
    (counts : ∀ n : Fin 8, v.inFlight[n] = 0) (mode : v.mode ≠ .draining) : laneAgrees v := by
  refine ⟨⟨?_, ?_, ?_, ?_, ?_, ?_, ?_, fun _ => subject, ?_, ?_, fun n => ?_, fun _ => cards, fun e => absurd e mode⟩, fun _ => queue⟩
  · simp [cards]
  · simp [cards]
  · simp [cards]
  · simp [cards, context]
  · simp [cards]
  · simp [cards]
  · simp [queued, cards, queue]
  · simp [subject]
  · simp [cards]
  · simp [routedTo, cards, counts]

end LaneView

end Sys2Proof.Machine
end

section
/-! SUPPORT. Each operation of the lane as a move of its view, and that every step keeps the lane in agreement (R15 to R20, R58 to R63,
R127, R130). -/

namespace Sys2Proof.Machine

section
variable {s t : State}

/-! ## What leaves the view alone -/

theorem laneView_ext (cards : t.track.letters.map cardOf = s.track.letters.map cardOf) (mode : t.track.mode = s.track.mode)
    (context : (t.scan.context.map fun c => (c.seq, c.leading)) = s.scan.context.map fun c => (c.seq, c.leading))
    (eval : t.eval = s.eval) (inFlight : t.stackers.map Stacker.inFlight = s.stackers.map Stacker.inFlight) :
    laneView t = laneView s := by
  rw [laneView, laneView, cards, mode, context, eval, inFlight]

theorem laneView_frame {bs : List Block} (h : changesOnly bs s t)
    (out : Block.track ∉ bs ∧ Block.scan ∉ bs ∧ Block.eval ∉ bs ∧ Block.stackers ∉ bs) : laneView t = laneView s := by
  obtain ⟨track, scan, eval, stackers⟩ := out
  have sameTrack : t.track = s.track := h .track track
  have sameScan : t.scan = s.scan := h .scan scan
  have sameEval : t.eval = s.eval := h .eval eval
  have sameStackers : t.stackers = s.stackers := h .stackers stackers
  rw [laneView, laneView, sameTrack, sameScan, sameEval, sameStackers]

/-- Records changed in what the view does not show. -/
theorem laneView_modifyLetter (q : Seq) {f : Letter → Letter} (same : ∀ l, cardOf (f l) = cardOf l) (s : State) :
    laneView (modifyLetter q f s) = laneView s := by
  refine laneView_ext ?_ rfl rfl rfl rfl
  rw [modifyLetter_letters, List.map_map]
  refine List.map_congr_left fun l _ => ?_
  simp only [Function.comp]
  split
  · exact same l
  · rfl

/-- Records changed as their cards are. -/
theorem cards_modifyLetter (q : Seq) {f : Letter → Letter} {g : LetterCard → LetterCard} (acts : ∀ l, cardOf (f l) = g (cardOf l))
    (s : State) : (modifyLetter q f s).track.letters.map cardOf = setCard q g (s.track.letters.map cardOf) := by
  rw [modifyLetter_letters, setCard, List.map_map, List.map_map]
  refine List.map_congr_left fun l _ => ?_
  simp only [Function.comp]
  by_cases e : l.seq = q
  · rw [if_pos e, acts]
    exact (if_pos e).symm
  · rw [if_neg e]
    exact (if_neg e).symm

theorem laneView_writesTrack {tr : LetterTrack} (letters : tr.letters = s.track.letters) (mode : tr.mode = s.track.mode) :
    laneView (s.withTrack tr) = laneView s :=
  laneView_ext (by rw [State.withTrack_track, letters]) mode rfl rfl rfl

/-- Stackers changed in what the view does not show. -/
theorem laneView_stackers {bs : List Block} (h : changesOnly bs s t) (out : Block.track ∉ bs ∧ Block.scan ∉ bs ∧ Block.eval ∉ bs)
    (inFlight : ∀ j : Fin 8, t.stackers[j].inFlight = s.stackers[j].inFlight) : laneView t = laneView s := by
  obtain ⟨track, scan, eval⟩ := out
  have sameTrack : t.track = s.track := h .track track
  have sameScan : t.scan = s.scan := h .scan scan
  have sameEval : t.eval = s.eval := h .eval eval
  refine laneView_ext (by rw [sameTrack]) (by rw [sameTrack]) (by rw [sameScan]) sameEval (Vector.ext fun i hi => ?_)
  rw [Vector.getElem_map, Vector.getElem_map]
  exact inFlight ⟨i, hi⟩

theorem recomputeLamp_view (n : Fin 8) (s : State) : laneView (recomputeLamp n s) = laneView s := by
  refine laneView_stackers (recomputeLamp_frame s n) (by decide) fun j => ?_
  rw [recomputeLamp_stackers]
  split <;> rfl

theorem foldl_view {α : Type} {f : State → α → State} (h : ∀ s a, laneView (f s a) = laneView s) (xs : List α) (s : State) :
    laneView (xs.foldl f s) = laneView s := by
  induction xs generalizing s with
  | nil => rfl
  | cons x xs ih => exact (ih _).trans (h s x)

theorem recomputeLamps_view (s : State) : laneView (recomputeLamps s) = laneView s := foldl_view (fun s n => recomputeLamp_view n s) _ s

theorem sweep_view (n : Fin 8) (s : State) : laneView (sweep n s) = laneView s := by
  refine (recomputeLamp_view n _).trans (laneView_stackers (modifyStacker_frame s n _) (by decide) fun j => ?_)
  rw [modifyStacker_get]
  split <;> rfl

theorem setFlag_view (f : ConditionFlag) (s : State) : laneView (setFlag f s) = laneView s :=
  laneView_frame (setFlag_frame s f) (by decide)

theorem count_view (i : Fin 64) (s : State) : laneView (count i s) = laneView s := laneView_frame (count_frame s i) (by decide)

theorem setPrintStatus_view (q : Seq) (st : PrintStatus) (s : State) : laneView (setPrintStatus q st s) = laneView s := by
  unfold setPrintStatus
  refine laneView_modifyLetter q ?_ s
  exact fun _ => rfl

theorem recordVerdict_view (q : Seq) (v : Verdict) (m : Bool) (s : State) : laneView (recordVerdict q v m s) = laneView s := by
  unfold recordVerdict
  refine laneView_modifyLetter q ?_ s
  exact fun _ => rfl

theorem setTrailExpected_view (b : Bool) (s : State) : laneView (setTrailExpected b s) = laneView s := laneView_writesTrack rfl rfl

theorem setLastTrailing_view (p : Option Pos) (s : State) : laneView (setLastTrailing p s) = laneView s :=
  laneView_writesTrack rfl rfl

theorem expireHead_view (s : State) (h : Fin 4) : laneView (expireHead h s) = laneView s := by
  have booked : ∀ (s : State) (b : Booking), laneView (expireBooking s b) = laneView s := fun s b =>
    (count_view _ _).trans (setPrintStatus_view _ _ s)
  unfold expireHead
  dsimp only
  split
  · rfl
  · refine (laneView_frame (proceedIfEmpty_frame _ h) (by decide)).trans ((foldl_view booked _ _).trans ?_)
    exact laneView_frame (modifyHead_frame s h _) (by decide)

theorem expireBookings_view (s : State) : laneView (expireBookings s) = laneView s := foldl_view expireHead_view _ s

theorem dropBookings_view (h : Fin 4) (s : State) : laneView (dropBookings h s) = laneView s := by
  have dropped : ∀ (s : State) (b : Booking), laneView (dropBooking s b) = laneView s := fun s b =>
    (count_view _ _).trans (setPrintStatus_view _ _ s)
  have all : laneView (s.heads[h].bookings.foldl dropBooking (modifyHead h (fun k => { k with bookings := [] }) s)) = laneView s :=
    (foldl_view dropped _ _).trans (laneView_frame (modifyHead_frame s h _) (by decide))
  unfold dropBookings
  dsimp only
  split
  · exact all
  · exact (setFlag_view _ _).trans all

theorem afterFault_view (h : Fin 4) (tag : Option Seq) (latched : Bool) (s : State) :
    laneView (afterFault h tag latched s) = laneView s := by
  have tagged : ∀ q s, laneView (faultTag h q s) = laneView s := by
    intro q s
    unfold faultTag
    split
    · rfl
    split
    · rfl
    split
    · exact (setFlag_view _ _).trans ((count_view _ _).trans (setPrintStatus_view q _ s))
    · rfl
  have latches : ∀ u, laneView (if latched then setFlag .headlatch u else u) = laneView u := by
    intro u
    split
    · exact setFlag_view _ u
    · rfl
  unfold afterFault
  dsimp only
  refine (latches _).trans ?_
  split
  · exact setFlag_view _ s
  · exact (tagged _ _).trans (setFlag_view _ s)

theorem modifyHead_view (h : Fin 4) (f : Head → Head) (s : State) : laneView (modifyHead h f s) = laneView s :=
  laneView_frame (modifyHead_frame s h f) (by decide)

theorem headfaultReport_view (head : Byte) (tag : Option Seq) (s : State) : laneView (headfaultReport head tag s) = laneView s := by
  unfold headfaultReport
  split
  · unfold headfaultAt
    dsimp only
    split
    · split
      · exact (afterFault_view _ _ _ _).trans ((modifyHead_view _ _ _).trans (dropBookings_view _ s))
      · exact (afterFault_view _ _ _ _).trans ((modifyHead_view _ _ _).trans (dropBookings_view _ s))
    · split
      · exact (afterFault_view _ _ _ _).trans ((modifyHead_view _ _ _).trans (dropBookings_view _ s))
      · exact (afterFault_view _ _ _ _).trans ((modifyHead_view _ _ _).trans (dropBookings_view _ s))
    · exact (afterFault_view _ _ _ _).trans (modifyHead_view _ _ s)
    · exact (afterFault_view _ _ _ _).trans (modifyHead_view _ _ s)
    all_goals rfl
  · rfl

theorem applyEntry_view (s : State) (e : HeadEntry) : laneView (applyEntry s e) = laneView s := by
  unfold applyEntry
  split
  · exact laneView_frame (enableHead_frame s _) (by decide)
  · exact (modifyHead_view _ _ _).trans (dropBookings_view _ s)

theorem headAction_view (a : HeadAction) (h : Fin 4) (s : State) : laneView (headAction a h s).1 = laneView s := by
  cases a with
  | enable => exact laneView_frame (enableHead_frame s h) (by decide)
  | disable => exact (modifyHead_view _ _ _).trans (dropBookings_view _ s)
  | purge => exact laneView_frame (purgeHead_frame s h) (by decide)
  | abortPurge => exact laneView_frame (abortPurgeHead_frame s h) (by decide)
  | status => rfl

theorem refuseLead_view (s : State) : laneView (refuseLead s) = laneView s := by
  rw [refuseLead, setTrailExpected_view, laneView_frame (sendHalt_frame _ _) (by decide), setFlag_view, count_view]

theorem looseTrail_view (x : Pos) (s : State) : laneView (looseTrail x s) = laneView s := by
  unfold looseTrail
  dsimp only
  split
  · split
    · exact (setLastTrailing_view _ _).trans (setTrailExpected_view _ s)
    · exact setTrailExpected_view _ s
  · split
    · exact (setFlag_view _ _).trans (laneView_writesTrack rfl rfl)
    · exact laneView_writesTrack rfl rfl

/-! ## A LINE (R44) -/

theorem scanLine_context (k : Scanset) (h : ScanHead) (x : Pos) (samples : Vector (BitVec 16) 24) (u : ScanUnit) :
    ((scanLine k h x samples u).context.map fun c => (c.seq, c.leading)) = u.context.map fun c => (c.seq, c.leading) := by
  have background : (backgroundLine h samples u).context = u.context := by
    cases h <;> simp only [backgroundLine]
  unfold scanLine
  split
  · rw [background]
  · next c context =>
    split
    · rw [background]
    split
    · rw [context]
      cases h <;> simp only [assignedLine, contextWith, Option.map_some]
    · rfl

theorem takeLine_view (h : ScanHead) (x : Pos) (samples : Vector (BitVec 16) 24) (s : State) :
    laneView (takeLine h x samples s) = laneView s :=
  laneView_ext rfl rfl (scanLine_context _ h x samples s.scan) rfl rfl

/-! ## The evaluation unit (R59, R60) -/

theorem setLetterState_cards (q : Seq) (st : LetterState) (s : State) :
    (setLetterState q st s).track.letters.map cardOf = setCard q (fun c => { c with state := st }) (s.track.letters.map cardOf) :=
  cards_modifyLetter q (fun _ => rfl) s

theorem startEvaluation_view (s : State) : laneView (startEvaluation s) = (laneView s).start := by
  rcases startEvaluation_cases s with ⟨queue, same⟩ | ⟨q, rest, queue, same⟩
  · have stays : (laneView s).start = laneView s := by
      unfold LaneView.start
      split
      · rfl
      · next e => exact absurd (queue.symm.trans e) (by simp)
    rw [same, stays]
  · have starts : (laneView s).start = { laneView s with
        cards := setCard q (fun c => { c with state := .evaluating }) (laneView s).cards
        eval := { busy := true, subject := some q, queue := rest } } := by
      unfold LaneView.start
      split
      · next e => exact absurd (queue.symm.trans e) (by simp)
      · next e =>
        obtain ⟨rfl, rfl⟩ := List.cons.inj (e.symm.trans queue)
        rfl
    rw [same, starts, laneView, setLetterState_cards]
    rfl

theorem releaseSubject_view (s : State) : laneView (releaseSubject s) = (laneView s).release.start := startEvaluation_view _

theorem queueLetter_view (q : Seq) {v : LaneView} (joined : v = { laneView s with
      cards := setCard q (fun c => { c with state := .queued }) (laneView s).cards
      eval := { s.eval with queue := s.eval.queue ++ [q] } }) :
    laneView (queueLetter q s) = if s.eval.busy then v else v.start := by
  have queued : laneView (setLetterState q .queued (s.withEval { s.eval with queue := s.eval.queue ++ [q] })) = v := by
    rw [joined, laneView, setLetterState_cards]
    rfl
  unfold queueLetter
  dsimp only
  have busy : (setLetterState q .queued (s.withEval { s.eval with queue := s.eval.queue ++ [q] })).eval.busy = s.eval.busy := rfl
  rw [busy]
  split
  · exact queued
  · rw [startEvaluation_view, queued]

/-! ## The close of a letter (R27, R32, R48) -/

/-- The card of a closed letter. -/
def closedCard (c : LetterCard) : LetterCard := { c with closed := true }

theorem closeLetter_view (l : Letter) (L : Nat) (edgelost fault : Bool) (present : s.scan.context.isSome = true) :
    laneView (closeLetter l L edgelost fault s)
      = { laneView s with cards := setCard l.seq closedCard (laneView s).cards, context := none } := by
  have flagged : ∀ (b : Bool) (f : ConditionFlag) (t : State), laneView (if b then setFlag f t else t) = laneView t := by
    intro b f t
    cases b
    · rfl
    · exact setFlag_view f t
  have emptied : ∀ t : State, laneView (t.withScan (emptyContext t.scan)) = { laneView t with context := none } := fun _ => rfl
  unfold closeLetter
  dsimp only
  rw [setLastTrailing_view, flagged, emptied, flagged, laneView, cards_modifyLetter l.seq (g := closedCard)]
  · rfl
  · intro k
    have windows : ∀ f : ScanContext → Vector WindowRecord 8, (s.scan.context.map f).isSome = true := fun f => by simpa using present
    simp only [cardOf, closedRecord, windows, closedCard]
    rfl

variable (a : laneAgrees (laneView s))

/-- The letter in the track of a card's number. -/
theorem card_of_letter {l : Letter} (mem : l ∈ s.track.letters) : cardOf l ∈ (laneView s).cards := List.mem_map_of_mem mem

include a

theorem context_present {l : Letter} (mem : l ∈ s.track.letters) (opened : l.state = .opened) : s.scan.context.isSome = true := by
  have context : (s.scan.context.map fun c => (c.seq, c.leading)) = _ := (a.1.context_of_opened (card_of_letter mem) opened).2
  have some : (s.scan.context.map fun c => (c.seq, c.leading)).isSome = true := by
    rw [context]
    rfl
  simpa using some

theorem closeQueue_view {l : Letter} (mem : l ∈ s.track.letters) (opened : l.state = .opened) (L : Nat) (edgelost fault : Bool) :
    laneView (queueLetter l.seq (closeLetter l L edgelost fault s))
      = if s.eval.busy then (laneView s).enqueue l.seq else ((laneView s).enqueue l.seq).start := by
  have closed := closeLetter_view l L edgelost fault (context_present a mem opened)
  have eval : (closeLetter l L edgelost fault s).eval = s.eval := closeLetter_frame s _ _ _ _ .eval (by decide)
  have enqueued : (laneView s).enqueue l.seq = { laneView (closeLetter l L edgelost fault s) with
      cards := setCard l.seq (fun c => { c with state := .queued }) (laneView (closeLetter l L edgelost fault s)).cards
      eval := { (closeLetter l L edgelost fault s).eval with queue := (closeLetter l L edgelost fault s).eval.queue ++ [l.seq] } } := by
    rw [closed, eval]
    simp only [LaneView.enqueue]
    rw [setCard_setCard (f := closedCard) fun _ => rfl]
    rfl
  rw [queueLetter_view l.seq enqueued, eval]

theorem laneAgrees_closeQueue {l : Letter} (mem : l ∈ s.track.letters) (opened : l.state = .opened) (L : Nat) (edgelost fault : Bool) :
    laneAgrees (laneView (queueLetter l.seq (closeLetter l L edgelost fault s))) := by
  have agrees := a.1.enqueue (card_of_letter mem) opened
  rw [closeQueue_view a mem opened]
  split
  · next busy => exact ⟨agrees, fun idle => absurd (busy.symm.trans idle) (by decide)⟩
  · next idle => exact agrees.start (Bool.eq_false_of_not_eq_true idle)

/-! ## Dispositions (R86, R88, R133) -/

omit a

theorem reserve_inFlight (n : Fin 8) (s : State) :
    (reserve n s).stackers.map Stacker.inFlight
      = (s.stackers.map Stacker.inFlight).set n.val ((s.stackers.map Stacker.inFlight)[n] + 1) n.isLt := by
  refine Vector.ext fun i hi => ?_
  have get : (reserve n s).stackers[i] = if (⟨i, hi⟩ : Fin 8) = n then
      { s.stackers[i] with inFlight := s.stackers[i].inFlight + 1 } else s.stackers[i] := modifyStacker_get s n ⟨i, hi⟩ _
  have set := set_get (s.stackers.map Stacker.inFlight) n ⟨i, hi⟩ ((s.stackers.map Stacker.inFlight)[n] + 1)
  rw [Vector.getElem_map, get]
  refine Eq.trans ?_ set.symm
  split
  · next e =>
    subst e
    simp
  · simp

/-- The card of a letter ROUTED to stacker n. -/
def placedCard (n : Fin 8) (c : LetterCard) : LetterCard := { c with state := .routed, stacker := some n, windowed := true }

theorem writeDisposition_view (q : Seq) (d : Disposition) (pr : Option Print) (w : ArrivalWindow) (s : State) :
    laneView (writeDisposition q d pr w s) = { laneView s with cards := setCard q (placedCard d.stacker) (laneView s).cards } := by
  have cards := cards_modifyLetter q (g := placedCard d.stacker)
    (f := fun l => { l with disposition := some d, print := pr, window := some w, state := .routed }) (fun _ => rfl) s
  rw [laneView, writeDisposition, cards]
  rfl

theorem reserve_view (n : Fin 8) (s : State) :
    laneView (reserve n s) = { laneView s with
      inFlight := (laneView s).inFlight.set n.val ((laneView s).inFlight[n] + 1) n.isLt } := by
  rw [laneView, reserve_inFlight]
  rfl

theorem lateDisposition_view (l : Letter) (c : ResidueCause) (s : State) :
    laneView (lateDisposition l c s) = (laneView s).place l.seq (residueStacker (pathInEffect s.routing)) := by
  unfold lateDisposition
  dsimp only
  rw [setFlag_view, count_view, laneView_frame (appendPlan_frame _ _ _) (by decide), recomputeLamp_view, writeDisposition_view,
    reserve_view]
  rfl

theorem stackerPhase_view (k : Selection) (p : Path) (c : Option ResidueCause) (s : State) :
    laneView (stackerPhase k p c s).2.2 = laneView (reserve (stackerPhase k p c s).1 s) := by
  unfold stackerPhase
  split
  · rfl
  · split
    · rfl
    · rw [reserve_view, reserve_view, count_view]

theorem commitDecision_view (l : Letter) (k : Selection) (g : Gated) (pr : Option (Accepted × Fin 8)) (n : Fin 8)
    (c : Option ResidueCause) (s : State) :
    laneView (commitDecision l k g pr n c s) = { laneView s with cards := setCard l.seq (placedCard n) (laneView s).cards } := by
  unfold commitDecision
  dsimp only
  have planned : ∀ t : State, laneView (if g.switchAt.isSome then t.withRouting { t.routing with gatePath := g.path } else t) = laneView t := by
    intro t
    split
    · exact laneView_frame (withRouting_frame _ _) (by decide)
    · rfl
  rw [recomputeLamp_view, laneView_frame (joinOrders_frame _ _) (by decide), planned, laneView_frame (appendPlan_frame _ _ _) (by decide),
    writeDisposition_view]

theorem routingDecision_view (l : Letter) (v : Verdict) (s : State) :
    ∃ n, laneView (routingDecision l v s) = (laneView s).place l.seq n := by
  unfold routingDecision
  split
  · exact ⟨_, lateDisposition_view l _ s⟩
  · dsimp only
    have placed : ∀ k g pr n c t, laneView t = laneView (reserve n s) →
        laneView (commitDecision l k g pr n c t) = (laneView s).place l.seq n := by
      intro k g pr n c t h
      rw [commitDecision_view, h, reserve_view]
      rfl
    refine ⟨_, placed _ _ _ _ _ _ ?_⟩
    rw [stackerPhase_view, reserve_view, reserve_view, laneView_frame (printPhase_frame _ _ _ _) (by decide),
      laneView_frame (gatePhase_frame _ _ _) (by decide), laneView_frame (rowSelection_frame _ _ _) (by decide)]

/-! ## A letter that leaves its state (R35, R61) -/

/-- An EVALUATING letter is in neither the queue nor the scan context. -/
theorem place_of_evaluating {v : LaneView} (a : v.Agrees) {c : LetterCard} (mem : c ∈ v.cards) (evaluating : c.state = .evaluating)
    (n : Fin 8) : v.place c.seq n = v.route c.seq n := by
  have closed := a.closed c mem (by simp [evaluating])
  have queue : v.eval.queue.filter (fun x => decide (x ≠ c.seq)) = v.eval.queue :=
    List.filter_eq_self.mpr fun x hx => decide_eq_true fun e => a.notMem_queue mem (by simp [evaluating]) (e ▸ hx)
  have cards : setCard c.seq (placedCard n) v.cards
      = setCard c.seq (fun c => { c with state := .routed, closed := true, stacker := some n, windowed := true }) v.cards :=
    setCard_congr fun d hd e => by
      rw [card_unique a.nodup hd mem e, placedCard, closed]
  rw [LaneView.route, queue, if_neg (a.context_of_not_opened mem (by simp [evaluating])), ← cards]
  rfl

/-- A QUEUED letter leaves the queue. -/
theorem place_of_queued {v : LaneView} (a : v.Agrees) {c : LetterCard} (mem : c ∈ v.cards) (queued : c.state = .queued) (n : Fin 8) :
    LaneView.place c.seq n { v with eval := { v.eval with queue := v.eval.queue.filter fun x => x ≠ c.seq } } = v.route c.seq n := by
  have closed := a.closed c mem (by simp [queued])
  have cards : setCard c.seq (placedCard n) v.cards
      = setCard c.seq (fun c => { c with state := .routed, closed := true, stacker := some n, windowed := true }) v.cards :=
    setCard_congr fun d hd e => by
      rw [card_unique a.nodup hd mem e, placedCard, closed]
  rw [LaneView.route, if_neg (a.context_of_not_opened mem (by simp [queued])), ← cards]
  rfl

/-- An OPEN letter is closed without its TRAIL edge. -/
theorem place_of_opened {v : LaneView} (a : v.Agrees) {c : LetterCard} (mem : c ∈ v.cards) (opened : c.state = .opened) (n : Fin 8) :
    LaneView.place c.seq n { v with cards := setCard c.seq closedCard v.cards, context := none } = v.route c.seq n := by
  have queue : v.eval.queue.filter (fun x => decide (x ≠ c.seq)) = v.eval.queue :=
    List.filter_eq_self.mpr fun x hx => decide_eq_true fun e => a.notMem_queue mem (by simp [opened]) (e ▸ hx)
  rw [LaneView.route, queue, (a.context_of_opened mem opened).2, if_pos (Option.map_some ..), LaneView.place]
  simp only
  rw [setCard_setCard (f := closedCard) fun _ => rfl]
  rfl

theorem leaveState_seqs (l : Letter) (s : State) :
    (leaveState l s).track.letters.map Letter.seq = s.track.letters.map Letter.seq := (leaveState_ledger l s).2

/-- A letter in the track is found by its number wherever the numbers stand. -/
theorem findLetter_isSome {q : Seq} (h : q ∈ s.track.letters.map Letter.seq) : ∃ l, findLetter s q = some l ∧ l.seq = q := by
  obtain ⟨l, hl, rfl⟩ := List.mem_map.mp h
  cases e : findLetter s l.seq with
  | none =>
    have other := List.find?_eq_none.mp e l hl
    simp at other
  | some k => exact ⟨k, rfl, (findLetter_spec s e).2⟩

theorem giveLate_view {q : Seq} (h : q ∈ s.track.letters.map Letter.seq) : ∃ n, laneView (giveLate q s) = (laneView s).place q n := by
  obtain ⟨l, found, rfl⟩ := findLetter_isSome h
  refine ⟨residueStacker (pathInEffect s.routing), ?_⟩
  unfold giveLate
  rw [found]
  exact lateDisposition_view l _ s

theorem laneAgrees_declareLate (a : laneAgrees (laneView s)) {l : Letter} (mem : l ∈ s.track.letters) (unrouted : l.state ≠ .routed) :
    laneAgrees (laneView (declareLate l s)) := by
  have inTrack : l.seq ∈ (leaveState l s).track.letters.map Letter.seq := by
    rw [leaveState_seqs]
    exact List.mem_map_of_mem mem
  have card := card_of_letter mem
  obtain ⟨n, late⟩ := giveLate_view inTrack
  have routed : (laneView (leaveState l s)).place l.seq n = (laneView s).route l.seq n := by
    unfold leaveState
    split
    · next opened =>
      rw [setTrailExpected_view, closeEdgelost, closeLetter_view l _ _ _ (context_present a mem opened)]
      exact place_of_opened a.1 card opened n
    · next queued => exact place_of_queued a.1 card queued n
    · next evaluating => exact place_of_evaluating a.1 card evaluating n
    · next routed => exact absurd routed unrouted
  rw [declareLate_eq, late, routed]
  refine ⟨a.1.route card unrouted n, fun idle => ?_⟩
  have empty : (laneView s).eval.queue = [] := a.2 idle
  rw [LaneView.route, empty]
  rfl

/-! ## Retirement (R19, R130) -/

theorem retireFrom_view (n : Fin 8) (c : Retirement) (s : State) :
    laneView (retireFrom n c s) = { laneView s with
      inFlight := (laneView s).inFlight.set n.val ((laneView s).inFlight[n] - 1) n.isLt } := by
  have inFlight : (retireFrom n c s).stackers.map Stacker.inFlight
      = (s.stackers.map Stacker.inFlight).set n.val ((s.stackers.map Stacker.inFlight)[n] - 1) n.isLt := by
    refine Vector.ext fun i hi => ?_
    have get : (retireFrom n c s).stackers[i] = if (⟨i, hi⟩ : Fin 8) = n then
        { s.stackers[i] with
          inFlight := s.stackers[i].inFlight - 1
          arrived := if c = .delivered then satInc32 s.stackers[i].arrived else s.stackers[i].arrived }
        else s.stackers[i] := modifyStacker_get s n ⟨i, hi⟩ _
    have set := set_get (s.stackers.map Stacker.inFlight) n ⟨i, hi⟩ ((s.stackers.map Stacker.inFlight)[n] - 1)
    rw [Vector.getElem_map, get]
    refine Eq.trans ?_ set.symm
    split
    · next e =>
      subst e
      simp
    · simp
  rw [laneView, inFlight]
  rfl

theorem stackerShare_view {l : Letter} {d : Disposition} (disposed : l.disposition = some d) (c : Retirement) (s : State) :
    laneView (stackerShare l c s) = laneView (retireFrom d.stacker c s) := by
  unfold stackerShare
  rw [disposed]
  cases c with
  | delivered => exact (recomputeLamp_view _ _).trans (count_view _ _)
  | lost => exact (recomputeLamp_view _ _).trans (setFlag_view _ _)
  | abandoned => rfl

theorem removeLetter_view (q : Seq) (s : State) :
    laneView (removeLetter q s) = { laneView s with cards := (laneView s).cards.filter fun c => c.seq ≠ q } := by
  have cards : (removeLetter q s).track.letters.map cardOf = (s.track.letters.map cardOf).filter fun c => c.seq ≠ q := by
    rw [removeLetter_letters, List.filter_map]
    rfl
  rw [laneView, cards]
  rfl

theorem forgetSubject_view (q : Seq) (s : State) :
    laneView (forgetSubject q s) = { laneView s with
      eval := { s.eval with subject := if s.eval.subject = some q then none else s.eval.subject } } := by
  unfold forgetSubject
  split <;> rfl

theorem drainIfEmpty_view (s : State) :
    laneView (drainIfEmpty s) = { laneView s with
      mode := if s.track.mode = .draining ∧ (laneView s).cards = [] then .stopped else s.track.mode } := by
  have empty : (laneView s).cards = [] ↔ s.track.letters = [] := List.map_eq_nil_iff
  unfold drainIfEmpty
  by_cases drained : s.track.mode = .draining ∧ s.track.letters = []
  · rw [if_pos drained, if_pos ⟨drained.1, empty.mpr drained.2⟩]
    rfl
  · rw [if_neg drained, if_neg fun h => drained ⟨h.1, empty.mp h.2⟩]
    rfl

theorem retire_view {l : Letter} {d : Disposition} (disposed : l.disposition = some d) (c : Retirement) (s : State) :
    laneView (retire l c s) = (laneView s).retire l.seq d.stacker := by
  unfold retire
  dsimp only
  rw [drainIfEmpty_view]
  have before : laneView (forgetSubject l.seq (removeBooking l.seq (stackerShare l c (count (tallyOfRetirement c)
      (removeLetter l.seq s))))) = { (laneView s).retire l.seq d.stacker with mode := s.track.mode } := by
    have eval : (removeBooking l.seq (stackerShare l c (count (tallyOfRetirement c) (removeLetter l.seq s)))).eval = s.eval := by
      rw [removeBooking_frame _ _ .eval (by decide), stackerShare_frame _ _ _ .eval (by decide), count_frame _ _ .eval (by decide),
        removeLetter_frame _ _ .eval (by decide)]
    rw [forgetSubject_view, eval, laneView_frame (removeBooking_frame _ _) (by decide), stackerShare_view disposed, retireFrom_view,
      count_view, removeLetter_view]
    rfl
  generalize forgetSubject l.seq _ = u at before
  have mode : u.track.mode = s.track.mode := congrArg LaneView.mode before
  rw [before, mode]
  rfl

theorem laneAgrees_retire (a : laneAgrees (laneView s)) {l : Letter} (mem : l ∈ s.track.letters) (routed : l.state = .routed)
    (c : Retirement) : laneAgrees (laneView (retire l c s)) := by
  have card := card_of_letter mem
  have disposed : l.disposition.isSome = true := by
    have := (a.1.routed _ card).1
    simpa [cardOf, routed] using this
  obtain ⟨d, disposed⟩ := Option.isSome_iff_exists.mp disposed
  rw [retire_view disposed]
  exact ⟨a.1.retire card (by rw [cardOf, disposed]; rfl), a.2⟩

/-! ## The advance and the edges -/

theorem laneAgrees_of_view {t : State} (same : laneView t = laneView s) (a : laneAgrees (laneView s)) : laneAgrees (laneView t) :=
  same.symm ▸ a

theorem laneAgrees_takePosition (a : laneAgrees (laneView s)) (x : Pos) : laneAgrees (laneView (takePosition x s)) := by
  refine takePosition_keeps (P := fun s => laneAgrees (laneView s)) ?_ ?_ ?_ ?_ ?_ ?_ x a
  · exact fun s _ => laneAgrees_of_view (laneView_frame (withPosition_frame s _) (by decide))
  · exact fun s _ => laneAgrees_of_view (laneView_frame (withChoices_frame s _) (by decide))
  · exact fun s => laneAgrees_of_view (laneView_frame (retirePlan_frame s) (by decide))
  · exact fun s => laneAgrees_of_view (expireBookings_view s)
  · intro q s a
    unfold testDeadline
    split
    · exact a
    · next l found =>
      split
      · next reached =>
        simp only [deadlineReached, Bool.and_eq_true, decide_eq_true_eq] at reached
        exact laneAgrees_declareLate a (findLetter_spec s found).1 reached.1
      · exact a
  · intro q s a
    unfold testWindowEnd
    split
    · exact a
    · next l found =>
      split
      · next ended =>
        simp only [windowEnded, Bool.and_eq_true, decide_eq_true_eq] at ended
        exact laneAgrees_retire a (findLetter_spec s found).1 ended.1 _
      · exact a

theorem openLetter_spec {l : Letter} (h : openLetter s = some l) : l ∈ s.track.letters ∧ l.state = .opened :=
  ⟨List.mem_of_find?_eq_some h, by
    unfold openLetter at h
    simpa using List.find?_some h⟩

theorem laneAgrees_closeOpen (a : laneAgrees (laneView s)) : laneAgrees (laneView (closeOpen s)) := by
  unfold closeOpen
  split
  · exact a
  · next l found =>
    obtain ⟨mem, opened⟩ := openLetter_spec found
    exact laneAgrees_closeQueue a mem opened _ _ _

theorem admitLetter_view (x : Pos) (s : State) :
    laneView (admitLetter x s)
      = (laneView s).admission (freeNumber s.track.letters s.track.letters.length s.track.seqCounter) x := by
  unfold admitLetter
  dsimp only
  generalize freeNumber s.track.letters s.track.letters.length s.track.seqCounter = q
  generalize joined : s.withTrack { s.track with letters := s.track.letters ++ [newLetter s q x], seqCounter := q + 1 } = u
  have view : laneView u = { laneView s with cards := (laneView s).cards ++ [⟨q, x, .opened, false, none, false⟩] } := by
    subst joined
    rw [laneView, State.withTrack_track]
    simp only [List.map_append]
    rfl
  have opened : laneView ((count tallyEntered u).withScan (openContext q x (count tallyEntered u).scan))
      = { laneView (count tallyEntered u) with context := some (q, x) } := rfl
  rw [opened, count_view, view]
  rfl

end

end Sys2Proof.Machine
end

section
/-! SUPPORT. The events of a step as moves of the lane's view: edges, completions, modes and resets (R18 to R33, R61, R185). -/

namespace Sys2Proof.Machine

section
variable {s : State}

/-! ## Edges (R28 to R33) -/

theorem closeOpen_scan (a : laneAgrees (laneView s)) : (laneView (closeOpen s)).context = none := by
  unfold closeOpen
  split
  · next none_ =>
    rw [← a.1.context]
    have none' : (laneView s).cards.find? (fun c => decide (c.state = .opened)) = none := by
      rw [laneView, List.find?_map]
      exact congrArg (Option.map cardOf) none_
    rw [none']
    rfl
  · next l found =>
    have scan : (queueLetter l.seq (closeEdgelost l s)).scan = emptyContext s.scan :=
      (queueLetter_frame _ _ .scan (by decide)).trans (closeLetter_scan _ _ _ _ s)
    rw [laneView, scan]
    rfl

theorem start_mode (v : LaneView) : v.start.mode = v.mode := by
  unfold LaneView.start
  split <;> rfl

theorem closeOpen_mode (a : laneAgrees (laneView s)) : (closeOpen s).track.mode = s.track.mode := by
  have view : (laneView (closeOpen s)).mode = (laneView s).mode := by
    unfold closeOpen
    split
    · rfl
    · next l found =>
      obtain ⟨mem, opened⟩ := openLetter_spec found
      rw [closeEdgelost, closeQueue_view a mem opened]
      split
      · rfl
      · exact start_mode _
  exact view

theorem laneAgrees_leadEdgeAt (a : laneAgrees (laneView s)) (x : Pos) : laneAgrees (laneView (leadEdgeAt x s)) := by
  cases runs : laneRuns s.track.mode with
  | false =>
    rw [leadEdgeAt_stopped runs, setTrailExpected_view, count_view]
    exact a
  | true =>
    have closed := laneAgrees_closeOpen a
    have context := closeOpen_scan a
    have mode := closeOpen_mode a
    rw [leadEdgeAt_running runs, takeLead]
    have same : laneView (setTrailExpected false (closeOpen s)) = laneView (closeOpen s) := setTrailExpected_view _ _
    have letters : (setTrailExpected false (closeOpen s)).track.letters = (closeOpen s).track.letters := rfl
    split
    · next room =>
      rw [admitLetter_view, same]
      have small : (closeOpen s).track.letters.length < trackCapacity := room
      refine ⟨closed.1.admission ?_ ?_ ?_ x ?_, closed.2⟩
      · have free := freeNumber_free (Nat.lt_trans small (by decide)) (closeOpen s).track.seqCounter
        rw [laneView, List.map_map]
        exact free
      · intro c hc opened
        have some := (closed.1.context_of_opened hc opened).2
        rw [context] at some
        cases some
      · rw [laneView, List.length_map]
        exact small
      · exact (congrArg laneRuns mode).trans runs
    · rw [refuseLead_view, same]
      exact closed

theorem laneAgrees_trailEdgeAt (a : laneAgrees (laneView s)) (x : Pos) : laneAgrees (laneView (trailEdgeAt x s)) := by
  unfold trailEdgeAt
  split
  · next l found =>
    obtain ⟨mem, opened⟩ := openLetter_spec found
    exact laneAgrees_closeQueue a mem opened _ _ _
  · exact laneAgrees_of_view (looseTrail_view x s) a

/-! ## Messages -/

theorem laneAgrees_takeMessage (a : laneAgrees (laneView s)) (src : Station) (m : Message) (other : ∀ code args, m ≠ .ask code args) :
    laneAgrees (laneView (takeMessage src m s)) := by
  have taken := laneAgrees_takePosition a
  cases m with
  | tick x => exact taken x
  | leadEdge x => exact laneAgrees_leadEdgeAt (taken x) x
  | trailEdge x => exact laneAgrees_trailEdgeAt (taken x) x
  | line h x w => exact laneAgrees_of_view (takeLine_view h x w _) (taken x)
  | arrive n x =>
    rw [takeMessage, arriveReport]
    split
    · unfold arriveAt
      split
      · next l found =>
        have expects := List.find?_some found
        simp only [expectsArrival, Bool.and_eq_true, decide_eq_true_eq] at expects
        exact laneAgrees_retire a (List.mem_of_find?_eq_some found) expects.1 _
      · rw [setFlag_view, count_view]
        exact a
    · exact laneAgrees_of_view (laneView_frame (countStrayReport_frame s) (by decide)) a
  | swept n =>
    rw [takeMessage, sweptReport]
    split
    · exact laneAgrees_of_view (sweep_view _ s) a
    · exact laneAgrees_of_view (laneView_frame (countStrayReport_frame s) (by decide)) a
  | headfault h t => exact laneAgrees_of_view (headfaultReport_view h t s) a
  | purgedone h o => exact laneAgrees_of_view (laneView_frame (purgedoneReport_frame s h o) (by decide)) a
  | ask code args => exact absurd rfl (other code args)

/-! ## The completion of an evaluation (R61, R62) -/

theorem laneAgrees_releaseSubject {v : LaneView} (view : laneView s = v) (agrees : v.Agrees) (none : ∀ c ∈ v.cards, c.state ≠ .evaluating) :
    laneAgrees (laneView (releaseSubject s)) := by
  rw [releaseSubject_view, view]
  exact (agrees.release none).start rfl

theorem laneAgrees_completeSubject (a : laneAgrees (laneView s)) {l : Letter} (found : findLetter s l.seq = some l)
    (subject : s.eval.subject = some l.seq) : laneAgrees (laneView (completeSubject l s)) := by
  have mem := (findLetter_spec s found).1
  have card := card_of_letter mem
  have state : l.state = .evaluating ∨ l.state = .routed := by
    obtain ⟨c, hc, number, state⟩ := a.1.subject l.seq subject
    have same : c = cardOf l := card_unique a.1.nodup hc card number
    subst same
    exact state
  have onlySubject : ∀ c ∈ (laneView s).cards, c.state = .evaluating → c.seq = l.seq := fun c hc e =>
    Option.some.inj ((a.1.evaluating c hc e).symm.trans subject)
  unfold completeSubject
  split
  · next noWindows =>
    have closed := a.1.closed _ card (by rcases state with e | e <;> simp [cardOf, e])
    simp [cardOf, noWindows] at closed
  · next ws _ =>
    dsimp only
    generalize verdictOf s.store.tables ws = v
    have recorded : laneView (count (tallyOfKind v.1.markKind) (recordVerdict l.seq v.1 v.2 s)) = laneView s :=
      (count_view _ _).trans (recordVerdict_view _ _ _ s)
    generalize count (tallyOfKind v.1.markKind) (recordVerdict l.seq v.1 v.2 s) = t at recorded
    by_cases evaluating : l.state = .evaluating
    · rw [if_pos evaluating]
      have inTrack : l.seq ∈ t.track.letters.map Letter.seq := by
        have seqs : ∀ u : State, u.track.letters.map Letter.seq = (laneView u).cards.map LetterCard.seq := fun u => by
          rw [laneView, List.map_map]
          rfl
        rw [seqs, recorded]
        exact List.mem_map_of_mem card
      obtain ⟨l', found', number⟩ := findLetter_isSome inTrack
      rw [found']
      obtain ⟨n, decided⟩ := routingDecision_view l' v.1 t
      rw [recorded, number] at decided
      have routed : (laneView s).place l.seq n = (laneView s).route l.seq n := place_of_evaluating a.1 card evaluating n
      rw [routed] at decided
      have unrouted : (cardOf l).state ≠ .routed := by simp [cardOf, evaluating]
      refine laneAgrees_releaseSubject decided (a.1.route card unrouted n) fun c hc e => ?_
      rcases mem_setCard.mp hc with ⟨hc', different⟩ | ⟨d, -, -, rfl⟩
      · exact different (onlySubject c hc' e)
      · cases e
    · rw [if_neg evaluating]
      refine laneAgrees_releaseSubject recorded a.1 fun c hc e => evaluating ?_
      have same : c = cardOf l := card_unique a.1.nodup hc card (onlySubject c hc e)
      subst same
      exact e

theorem laneAgrees_completeEvaluation (a : laneAgrees (laneView s)) : laneAgrees (laneView (completeEvaluation s)) := by
  unfold completeEvaluation
  split
  · exact a
  split
  · next none =>
    refine laneAgrees_releaseSubject rfl a.1 fun c hc e => ?_
    have some := a.1.evaluating c hc e
    rw [laneView, none] at some
    cases some
  · next q subject =>
    obtain ⟨c, hc, number, -⟩ := a.1.subject q subject
    obtain ⟨l, hl, rfl⟩ := List.mem_map.mp hc
    have nodup : (s.track.letters.map Letter.seq).Nodup := ((laneAgrees_iff s).mpr a).1.2.1
    have found := findLetter_of_mem s nodup hl
    have number : l.seq = q := number
    subst number
    rw [found]
    exact laneAgrees_completeSubject a found subject

/-! ## Abandonment (R25, R38, R142) -/

theorem lettersTo_cons (l : Letter) (ls : List Letter) (n : Fin 8) :
    (List.filter (fun l : Letter => match l.disposition with
        | some d => decide (d.stacker = n)
        | none => false) (l :: ls)).length
      = (if l.disposition.map Disposition.stacker = some n then 1 else 0)
        + (List.filter (fun l : Letter => match l.disposition with
          | some d => decide (d.stacker = n)
          | none => false) ls).length := by
  cases e : l.disposition with
  | none => simp [e]
  | some d =>
    by_cases same : d.stacker = n
    · simp [e, same, Nat.add_comm]
    · simp [e, same]

/-- An abandonment takes every letter from its stacker's in-flight count, and changes nothing else of a stacker. -/
theorem abandonLetters_stackers {tally : Fin 64 → State → State} (same : ∀ i s, (tally i s).stackers = s.stackers) (s : State) (n : Fin 8) :
    (abandonLetters tally s).stackers[n]
      = { s.stackers[n] with inFlight := s.stackers[n].inFlight - (lettersTo s n).length } := by
  have one : ∀ (s : State) (l : Letter), (abandonLetter tally s l).stackers[n] = { s.stackers[n] with
      inFlight := s.stackers[n].inFlight - if l.disposition.map Disposition.stacker = some n then 1 else 0 } := by
    intro s l
    unfold abandonLetter
    dsimp only
    split
    · next e =>
      rw [e, same]
      rfl
    · next d e =>
      have get := modifyStacker_get (tally (tallyOfRetirement .abandoned) s) d.stacker n
        fun k => { k with inFlight := k.inFlight - 1, arrived := k.arrived }
      rw [e, Option.map_some]
      refine Eq.trans get ?_
      rw [same]
      by_cases at_ : n = d.stacker
      · rw [if_pos at_, if_pos (by rw [at_])]
      · rw [if_neg at_, if_neg fun h => at_ (Option.some.inj h).symm]
        rfl
  have all : ∀ (ls : List Letter) (s : State), (ls.foldl (abandonLetter tally) s).stackers[n] = { s.stackers[n] with
      inFlight := s.stackers[n].inFlight - (List.filter (fun l : Letter => match l.disposition with
        | some d => decide (d.stacker = n)
        | none => false) ls).length } := by
    intro ls
    induction ls with
    | nil => exact fun _ => rfl
    | cons l ls ih =>
      intro s
      rw [List.foldl_cons, ih, one, lettersTo_cons]
      simp only [Nat.sub_sub]
  exact all _ _

theorem laneAgrees_enterStopped (a : laneAgrees (laneView s)) : laneAgrees (laneView (enterStopped s)) := by
  have counts : ∀ n : Fin 8, (abandonLetters count s).stackers[n].inFlight = 0 := by
    intro n
    have inFlight := ((laneAgrees_iff s).mpr a).2.2.1 n
    rw [abandonLetters_stackers (fun i s => count_frame s i .stackers (by decide))]
    exact Nat.sub_eq_zero_of_le inFlight.le
  have track := abandonLetters_letters (tally := count) (fun i s => count_frame s i .track (by decide)) s
  have view : laneView (enterStopped s) = { laneView (abandonLetters count s) with mode := .stopped } := by
    have set : ∀ t : State, laneView (setMode .stopped t) = { laneView t with mode := .stopped } := fun _ => rfl
    rw [enterStopped, set, laneView_frame (emptyBookings_frame _) (by decide), recomputeLamps_view]
  rw [view]
  refine LaneView.agrees_of_empty ?_ ?_ rfl rfl (fun n => ?_) (by simp)
  · have letters : (abandonLetters count s).track.letters = [] := by rw [track]
    rw [laneView, letters]
    rfl
  · rw [laneView, abandonLetters_scan]
    rfl
  · refine Eq.trans ?_ (counts n)
    simp [laneView]

/-! ## A lane reset block by block (R185) -/

/-- What the answer and the LAMP orders of a lane reset leave alone is as step 1 leaves it. -/
theorem resetAnswered_frame (src : Station) (s : State) : changesOnly [.ring] (resetBlocks s) (resetAnswered src s) :=
  (joinAnswer_frame _ _).chain (withRing_frame _ _) rfl

theorem laneReset_afterBlocks (src : Station) (s : State) : changesOnly [.stackers, .ring, .cond] (resetBlocks s) (laneReset src s) := by
  rw [laneReset_eq]
  have lamps : changesOnly [.stackers, .ring] (resetAnswered src s) (resynced (resetAnswered src s)) :=
    changesOnly.foldl resyncLamp_frame (List.finRange 8) _
  have answered : changesOnly [.stackers, .ring] (resetBlocks s) (resetAnswered src s) := (resetAnswered_frame src s).mono rfl
  have both : changesOnly [.stackers, .ring] (resetBlocks s) (resynced (resetAnswered src s)) := lamps.chain answered rfl
  have wide : changesOnly [.stackers, .ring, .cond] (resetBlocks s) (resynced (resetAnswered src s)) := both.mono rfl
  exact (withCond_frame _ _).chain wide rfl

theorem resyncLamp_get (s : State) (n j : Fin 8) :
    (resyncLamp s n).stackers[j] = if j = n then { s.stackers[j] with lamp := lampConditionOf s n } else s.stackers[j] := by
  rw [resyncLamp, issueLamp_frame _ _ .stackers (by decide), modifyStacker_get]

theorem laneReset_inFlight (src : Station) (s : State) (n : Fin 8) : (laneReset src s).stackers[n].inFlight = 0 := by
  have start : (resetAnswered src s).stackers = (resetBlocks s).stackers := resetAnswered_frame src s .stackers (by decide)
  have lamps : (resynced (resetAnswered src s)).stackers[n].inFlight = (resetAnswered src s).stackers[n].inFlight :=
    foldl_finRange (n := 8) (fun s j => s.stackers[j].inFlight) (fun _ x => x) (I := fun _ => True) (fun _ _ _ => trivial)
      (fun s h j _ => by
        rw [resyncLamp_get]
        split <;> simp) trivial n
  rw [laneReset_eq, State.withCond_stackers, lamps, start]
  have empty : (resetBlocks s).stackers = Vector.ofFn fun n : Fin 8 =>
      { (setMode .stopped (resetHeads (abandonLetters countQuiet s))).stackers[n] with inFlight := 0 } := rfl
  have get : ∀ f : Fin 8 → Stacker, (Vector.ofFn f)[n] = f n := fun f => by simp
  rw [empty, get]

theorem laneAgrees_laneReset (src : Station) (s : State) : laneAgrees (laneView (laneReset src s)) := by
  have blocks := laneReset_afterBlocks src s
  have letters := abandonLetters_letters (tally := countQuiet) (fun _ _ => rfl) s
  have track : (laneReset src s).track = (resetBlocks s).track := blocks .track (by decide)
  have eval : (laneReset src s).eval = (resetBlocks s).eval := blocks .eval (by decide)
  have blockTrack : (resetBlocks s).track = { (abandonLetters countQuiet s).track with mode := .stopped } := rfl
  have blockEval : (resetBlocks s).eval = { (abandonLetters countQuiet s).eval with queue := [], subject := none } := rfl
  refine LaneView.agrees_of_empty ?_ ?_ ?_ ?_ (fun n => ?_) ?_
  · rw [laneView, track, blockTrack, letters]
    rfl
  · rw [laneView, laneReset_scan]
    rfl
  · rw [laneView, eval, blockEval]
  · rw [laneView, eval, blockEval]
  · refine Eq.trans ?_ (laneReset_inFlight src s n)
    simp [laneView]
  · rw [laneView, track, blockTrack]
    simp

/-! ## The asks -/

theorem laneAgrees_applyMode (a : laneAgrees (laneView s)) {m : LaneMode} (permitted : jumpForbidden s.track.mode m = false) :
    laneAgrees (laneView (applyMode m s)) := by
  obtain ⟨agrees, idle⟩ := a
  cases m with
  | stopped => exact laneAgrees_enterStopped ⟨agrees, idle⟩
  | running =>
    exact ⟨{ agrees with
      empty := fun e => absurd (show laneRuns .running = false from e) (by decide),
      drains := fun e => absurd (show LaneMode.running = .draining from e) (by decide) }, idle⟩
  | service =>
    have empty : (laneView s).cards = [] := by
      refine agrees.empty ?_
      show laneRuns s.track.mode = false
      cases e : s.track.mode <;> rw [e] at permitted <;> first | rfl | cases permitted
    exact ⟨{ agrees with empty := fun _ => empty, drains := fun e => absurd (show LaneMode.service = .draining from e) (by decide) }, idle⟩
  | draining =>
    rw [applyMode, drainIfEmpty_view]
    by_cases none : (laneView s).cards = []
    · have drained : (if (setMode .draining s).track.mode = .draining ∧ (laneView (setMode .draining s)).cards = [] then LaneMode.stopped
          else (setMode .draining s).track.mode) = .stopped := if_pos ⟨rfl, none⟩
      rw [drained]
      exact ⟨{ agrees with empty := fun _ => none, drains := fun e => absurd (show LaneMode.stopped = .draining from e) (by decide) }, idle⟩
    · have drains : (if (setMode .draining s).track.mode = .draining ∧ (laneView (setMode .draining s)).cards = [] then LaneMode.stopped
          else (setMode .draining s).track.mode) = .draining := if_neg fun h => none h.2
      rw [drains]
      exact ⟨{ agrees with empty := fun e => absurd (show laneRuns .draining = false from e) (by decide), drains := fun _ => none }, idle⟩

theorem serveTableCommit_view (sum : BitVec 16) (s : State) : laneView (serveTableCommit sum s).state = laneView s := by
  have aborted : laneView (abortLoad s) = laneView s := laneView_frame (abortLoad_frame s) (by decide)
  have effects : ∀ t u, laneView (commitEffects t u) = laneView u := by
    intro t u
    cases t with
    | stacker => exact (recomputeLamps_view _).trans (laneView_frame (formDistances_frame u _) (by decide))
    | geometry => exact laneView_frame (formDistances_frame u _) (by decide)
    | lamp => exact laneView_frame (reissueLamps_frame u) (by decide)
    | _ => rfl
  unfold serveTableCommit
  split
  · rfl
  split
  · rfl
  split
  · exact aborted
  split
  · exact aborted
  split
  · exact aborted
  split
  · exact aborted
  · exact (effects _ _).trans (laneView_frame (withStore_frame s _) (by decide))

theorem laneAgrees_serve (a : laneAgrees (laneView s)) (code : Byte) (args : List Byte) : laneAgrees (laneView (serve code args s).state) := by
  by_cases written : Block.track ∈ askWrites code ∨ Block.stackers ∈ askWrites code ∨ Block.eval ∈ askWrites code ∨ Block.scan ∈ askWrites code
  · have form := serve_form code args
    generalize serve code args = f at form ⊢
    cases form with
    | badLength | unknown => exact a
    | mode target entries =>
      refine serveMode_keeps (P := fun s => laneAgrees (laneView s)) (fun s => laneAgrees_of_view (setFlag_view _ s))
        (fun m _ permitted a => laneAgrees_applyMode a permitted) (fun e s => laneAgrees_of_view (applyEntry_view s e)) _ _ a
    | tableCommit => exact laneAgrees_of_view (serveTableCommit_view _ s) a
    | headControl h act =>
      unfold serveHeadControl
      split
      · split
        · exact a
        · exact laneAgrees_of_view (headAction_view _ _ s) a
      · exact a
    | stackerSweep set => exact laneAgrees_of_view (foldl_view (fun s n => sweep_view n s) _ s) a
    | trackRead | trackReadFrom => exact laneAgrees_of_view (laneView_writesTrack rfl rfl) a
    | _ => exact absurd written (by decide)
  · simp only [not_or] at written
    obtain ⟨track, stackers, eval, scan⟩ := written
    exact laneAgrees_of_view (laneView_frame (serve_writes code args s) ⟨track, scan, eval, stackers⟩) a

end

theorem laneAgrees_keeps (start : State) : StepKeeps start (fun _ => True) fun s => laneAgrees (laneView s) where
  ring s r _ := laneAgrees_of_view (laneView_frame (withRing_frame s r) (by decide))
  pending s l := laneAgrees_of_view (laneView_frame (withPending_frame s l) (by decide))
  flag s f := laneAgrees_of_view (setFlag_view f s)
  message src m _ _ other a := laneAgrees_takeMessage a src m other
  serve code args _ _ a := laneAgrees_serve a code args
  laneReset src s _ := laneAgrees_laneReset src s
  powerOn k rest _ := LaneView.agrees_of_empty rfl rfl rfl rfl
    (fun n => by simp [laneView, assertReset, State.powerOn, State.withPending, State.withChoices, Stacker.reset])
    (by simp [laneView, assertReset, State.powerOn, State.withPending, State.withChoices, LetterTrack.reset])
  period s := laneAgrees_of_view (laneView_frame (timebaseTick_frame s) (by decide))
  evaluation _ := laneAgrees_completeEvaluation
  restart k s := laneAgrees_of_view (laneView_frame (restartExpiry_frame s k) (by decide))
  window k s := laneAgrees_of_view (laneView_frame (windowExpiry_frame s k) (by decide))
  purge k s := laneAgrees_of_view (laneView_frame (purgeExpiry_frame s k) (by decide))
  second s := laneAgrees_of_view (laneView_frame (secondEventAt_frame s) (by decide))
  release s := laneAgrees_of_view (laneView_frame (releaseReset_frame s) (by decide))

/-- Settles O56, by the view of the lane. -/
theorem trackInvariantKept : Obligations.TrackInvariantKept := by
  intro s t track eval stackers mode stepped
  exact (laneAgrees_iff t).mpr ((laneAgrees_keeps s).stepAny stepped ((laneAgrees_iff s).mp ⟨track, eval, stackers, mode⟩))

end Sys2Proof.Machine
end

section
/-! SUPPORT. The reset state and one TBASE period (R13, R15, R116). -/

namespace Sys2Proof.Machine

/-! ## The power-on state (R15, R157, R176) -/

theorem tableRow_zero (t : TableId) (i : Nat) : tableRow Tables.zero t i = 0 := by
  have zero : ∀ n : Nat, (Vector.replicate n (0 : Row))[i]?.getD 0 = 0 := fun n => by
    rw [Vector.getElem?_replicate]
    split <;> rfl
  cases t <;> exact zero _

theorem isCommitted_reset (t : TableId) : isCommitted TableStore.reset t = false := by
  cases t <;> rfl

theorem powerOn_flags (k : Station) (f : ConditionFlag) : flagSet (State.powerOn k) f = decide (f = .clockinvalid) := by
  have flags : flagSet (State.powerOn k) f = ConditionUnit.reset.flags.getLsbD (flagNumber f) := rfl
  rw [flags]
  cases f <;> decide

theorem powerOn_masked (k : Station) (f : ConditionFlag) : flagMasked (State.powerOn k) f = true := by
  have mask : flagMasked (State.powerOn k) f = ConditionUnit.reset.mask.getLsbD (flagNumber f) := rfl
  rw [mask]
  cases f <;> decide

theorem reset_routingRowsGood : routingRowsGood State.reset := by
  intro i _
  have row : rowInForce State.reset.store.tables i = routingRow 0 := congrArg routingRow (tableRow_zero .routing i)
  rw [row]
  decide

/-- Settles O4. -/
theorem powerOnReset : Obligations.PowerOnReset := by
  refine ⟨fun k s => ⟨assertReset k s, rfl, rfl, rfl, fun i => ?_, rfl, rfl, rfl, rfl, rfl, fun h => ?_, rfl, fun n => ?_,
    fun i => ?_, rfl, rfl, tableRow_zero, isCommitted_reset, rfl, rfl, rfl, rfl, rfl, powerOn_flags k, powerOn_masked k, rfl,
    rfl, rfl⟩, fun s asserted => ?_⟩
  · exact ⟨Vector.getElem_replicate i.isLt, Vector.getElem_replicate i.isLt⟩
  · exact Vector.getElem_replicate h.isLt
  · exact Vector.getElem_replicate n.isLt
  · exact ⟨Vector.getElem_replicate i.isLt, Vector.getElem_replicate i.isLt, Vector.getElem_replicate i.isLt,
      Vector.getElem_replicate i.isLt⟩
  · refine congrArg Host.Outcome.next ?_
    rw [releaseReset, if_pos asserted]
    rfl

/-- Settles O5. -/
theorem resetMeetsInvariant : Obligations.ResetMeetsInvariant := by
  have heads : ∀ h : Fin 4, headInvariant State.reset.heads[h] := fun h => by
    have reset : State.reset.heads[h] = Head.reset := Vector.getElem_replicate h.isLt
    rw [reset]
    exact headInvariant_reset
  have backgrounds : ∀ i : Fin 24, State.reset.scan.backgroundF[i] ≤ 8184 ∧ State.reset.scan.backgroundR[i] ≤ 8184 := fun i => by
    have zero : (Vector.replicate 24 0)[i] ≤ 8184 := (Vector.getElem_replicate i.isLt).trans_le (by decide)
    exact ⟨zero, zero⟩
  have inFlight : stackerInvariant State.reset := fun n =>
    congrArg Stacker.inFlight (Vector.getElem_replicate n.isLt : State.reset.stackers[n] = .reset)
  have track : trackInvariant State.reset := by
    refine ⟨by decide, .nil, ?_, rfl, ?_, ?_⟩ <;> exact fun l none => absurd none List.not_mem_nil
  have eval : evalInvariant State.reset :=
    ⟨rfl, fun _ => ⟨rfl, rfl⟩, fun q none => absurd (none : (Option.none : Option Seq) = some q) nofun, fun l none => absurd none List.not_mem_nil⟩
  have ring : ringInvariant State.reset.ring := by
    unfold ringInvariant
    decide
  have clock : clockInvariant State.reset.clock := by
    unfold clockInvariant
    decide
  exact ⟨rfl, ring, clock, fun _ => rfl, ⟨backgrounds, by decide, by decide⟩, heads, track, eval, inFlight,
    ⟨fun _ => rfl, fun drains => absurd (drains : LaneMode.stopped = .draining) nofun⟩, Nat.zero_le _, reset_routingRowsGood, fun l none => absurd (none : (Option.none : Option Load) = some l) nofun⟩

/-! ## One TBASE period (R13, R116) -/

theorem step_idle {s : State} (idle : s.pending = []) : step s = .next (timebaseTick s) := by
  rw [step, idle]

/-- Settles O2. -/
theorem idleStepIsOnePeriod : Obligations.IdleStepIsOnePeriod := by
  intro s idle
  have period := step_idle idle
  refine ⟨fun asserted => ?_, fun released counted ended counts ends => ?_⟩
  · rw [period, timebaseTick, if_pos asserted]
  have tick : timebaseTick s = secondTick (millisecondTick s) := if_neg (by simp [released])
  have second : ∀ w : State, w.clock = s.clock →
      (s.clock.phase + 1 < 1000000 → secondTick w = { w with clock := counted })
      ∧ (s.clock.phase + 1 = 1000000 → secondTick w = { w with clock := ended }) := by
    intro w same
    refine ⟨fun before => ?_, fun last => ?_⟩
    · rw [secondTick, same, if_pos (show s.clock.phase + 1 < secondPeriods from before), counts]
      rfl
    · rw [secondTick, same, if_neg (show ¬ s.clock.phase + 1 < secondPeriods from last ▸ lt_irrefl 1000000), secondEventAt, same, ends]
      rfl
  rw [period, tick]
  refine ⟨fun before u hu => ?_, fun last u v hu hv => ?_⟩
  · have ms : millisecondTick s = u := (if_pos before).trans hu.symm
    rw [ms]
    obtain ⟨counting, ending⟩ := second u (hu ▸ rfl)
    exact ⟨fun h => congrArg _ (counting h), fun h => congrArg _ (ending h)⟩
  · have ms : millisecondTick s = v := by
      rw [millisecondTick, if_neg (show ¬ s.time.msPhase + 1 < millisecondPeriods from last ▸ lt_irrefl 1000), hv, hu]
      rfl
    have frame : changesOnly [.heads, .cond, .ring] u v := hv ▸ millisecondEvent_frame u
    rw [ms]
    obtain ⟨counting, ending⟩ := second v ((frame .clock (by decide)).trans (hu ▸ rfl))
    exact ⟨frame, fun h => congrArg _ (counting h), fun h => congrArg _ (ending h)⟩

end Sys2Proof.Machine
end

section
/-! SUPPORT. Asks served at once with the places of their answer kept, the protected set, and the building of a load (R159 to R168, R182). -/

namespace Sys2Proof.Machine

/-! ## An ask served at once (R182) -/

section
variable {dest src code : Byte} {args : List Byte} {s : State}

/-- What serving answers when it starts with the places of its answer kept: they are free again when the answer joins. -/
theorem deliver_ask_reserved {parts : Nat} (atOnce : servedAtOnce dest src parts s) (fits : args.length ≤ maxArgs)
    (notReset : code ≠ 0x05) (needed : (answerParts (serve code args s).data).length = parts) {u : State} {status : Status}
    {data : List Byte} (serves : serve code args (setReserved parts s) = ⟨u, status, data⟩) :
    deliver dest src (.ask code args) s = joinWhole (station src) code ⟨setReserved 0 u, status, data⟩ := by
  obtain ⟨addressed, empty, noneKept, room⟩ := atOnce
  have other : isLaneReset ⟨station src, code, args⟩ = false := decide_eq_false fun reset => notReset reset.1
  have needs : partsNeeded ⟨station src, code, args⟩ s = parts := by rw [partsNeeded, if_neg (by simp [other])]; exact needed
  have hasRoom : partsNeeded ⟨station src, code, args⟩ s ≤ freeAnswerPlaces s := by
    rw [needs, freeAnswerPlaces, noneKept]
    omega
  calc deliver dest src (.ask code args) s
      = takeAsk (station src) code args s := deliver_taken addressed (askPayload_fits code fits)
    _ = serveAsk ⟨station src, code, args⟩ s := takeAsk_served empty hasRoom
    _ = joinWhole (station src) code ⟨setReserved 0 u, status, data⟩ := by
      rw [serveAsk, if_neg (by simp [other]), needs]
      dsimp only
      rw [serves]

theorem answerParts_one {data : List Byte} (short : data.length ≤ partSize) : (answerParts data).length = 1 := by
  rw [answerParts, if_pos short]
  rfl

/-- The form of `deliver_ask_reserved` for an answer of one part. -/
theorem deliver_ask_notices (atOnce : servedAtOnce dest src 1 s) (fits : args.length ≤ maxArgs) (notReset : code ≠ 0x05)
    (short : ∀ s, (serve code args s).data.length ≤ partSize) {u : State} {status : Status} {data : List Byte}
    (serves : serve code args (setReserved 1 s) = ⟨u, status, data⟩) :
    deliver dest src (.ask code args) s = joinAnswer (oneAnswer src code status data) (setReserved 0 u) := by
  rw [deliver_ask_reserved atOnce fits notReset (answerParts_one (short s)) serves, joinWhole_onePart]
  · rfl
  · have bound := short (setReserved 1 s)
    rwa [serves] at bound

/-- The form of `deliver_ask_onePart` for an ask that never answers more than one part and whose serving meets no notice. -/
theorem deliver_ask_quiet (atOnce : servedAtOnce dest src 1 s) (fits : args.length ≤ maxArgs) (notReset : code ≠ 0x05) {t : State}
    {status : Status} {data : List Byte} (serves : ∀ n, serve code args (setReserved n s) = ⟨setReserved n t, status, data⟩)
    (unreserved : t.ring.reserved = 0) (short : data.length ≤ partSize) :
    deliver dest src (.ask code args) s = joinAnswer (oneAnswer src code status data) t :=
  deliver_ask_onePart atOnce (askPayload_fits code fits) (decide_eq_false fun reset => notReset reset.1) serves unreserved short

end

/-! ## The protected set (R167) -/

theorem tableSet_getLsbD (ids : List Byte) (n : Nat) (table : n < 8) :
    (tableSet ids).getLsbD n = ids.any fun b => decide (b.toNat = n) := by
  have from_ : ∀ (ids : List Byte) (acc : BitVec 8),
      (ids.foldl (fun acc b => acc ||| BitVec.ofNat 8 (2 ^ b.toNat)) acc).getLsbD n
        = (acc.getLsbD n || ids.any fun b => decide (b.toNat = n)) := by
    intro ids
    induction ids with
    | nil => simp
    | cons b ids ih =>
      intro acc
      have bit : (BitVec.ofNat 8 (2 ^ b.toNat)).getLsbD n = decide (b.toNat = n) := by
        rw [BitVec.getLsbD_ofNat, Nat.testBit_two_pow, decide_eq_true table, Bool.true_and]
      rw [List.foldl_cons, ih, BitVec.getLsbD_or, bit, List.any_cons, Bool.or_assoc]
  rw [tableSet, from_]
  simp

section
variable {dest src : Byte} {ids : List Byte} {s : State}

theorem exec_protect_served (short : ids.length ≤ 8) (atOnce : servedAtOnce dest src 1 s) {st : TableStore} {status : Status}
    {data : List Byte} (serves : ∀ n, serveProtect ids (setReserved n s) = ⟨setReserved n (s.withStore st), status, data⟩)
    (small : data.length ≤ partSize) :
    exec (.protect dest src ids) s = .next (joinAnswer (oneAnswer src 0x0B status data) (s.withStore st)) := by
  have asked : ∀ t, serve 0x0B ids t = serveProtect ids t := fun t => if_pos short
  exact congrArg Host.Outcome.next (deliver_ask_quiet atOnce (Nat.le_trans short (Nat.le_of_ble_eq_true rfl)) (by decide)
    (fun n => (asked _).trans (serves n)) atOnce.2.2.1 small)

/-- Settles O27. -/
theorem protectOnce : Obligations.ProtectOnce := by
  intro dest src ids s short atOnce
  have known : (∀ b ∈ ids, b.toNat ≤ 7) → (ids.any fun b => decide (7 < b.toNat)) = false := fun all => by
    simpa using all
  refine ⟨fun unknown => ?_, fun all used => ?_, fun all unused => ⟨tableSet ids, ?_, fun n table => ?_⟩⟩
  · have any : (ids.any fun b => decide (7 < b.toNat)) = true := by simpa using unknown
    exact exec_protect_served short atOnce (st := s.store) (fun n => if_pos any) (by simp [partSize])
  · refine exec_protect_served short atOnce (st := s.store) (fun n => ?_) (by simp [partSize])
    refine (if_neg (by simp [known all])).trans ((if_pos used).trans ?_)
    rw [protectData, indicator, if_pos (show (setReserved n s).store.chanceUsed = true from used)]
    rfl
  · refine exec_protect_served short atOnce (fun n => ?_) (by simp [partSize])
    refine (if_neg (by simp [known all])).trans ((if_neg ?_).trans rfl)
    exact fun used => absurd (unused.symm.trans used) (by decide)
  · rw [tableSet_getLsbD ids n table, List.any_eq_true]
    simp only [decide_eq_true_eq]

end

/-! ## The building of a load (R158 to R160, R164) -/

theorem tableOf_eq {tables : List TableId}
    (order : tables = [.signature, .routing, .pattern, .stacker, .geometry, .scanset, .office, .lamp]) (b : Byte) :
    tableOf b = tables[b.toNat]? := by
  subst order
  by_cases known : b.toNat < 8
  · obtain ⟨i, rfl⟩ : ∃ i : Fin 8, b = BitVec.ofNat 8 i.val := ⟨⟨b.toNat, known⟩, by simp⟩
    revert i
    decide
  · have none_ : ([.signature, .routing, .pattern, .stacker, .geometry, .scanset, .office, .lamp] : List TableId)[b.toNat]? = none :=
      List.getElem?_eq_none (by simpa using known)
    have other : ∀ n : Nat, n < 8 → b ≠ BitVec.ofNat 8 n := fun n small e => known (by rw [e, BitVec.toNat_ofNat]; omega)
    rw [none_]
    exact (if_neg (other 0 (by decide))).trans ((if_neg (other 1 (by decide))).trans ((if_neg (other 2 (by decide))).trans
      ((if_neg (other 3 (by decide))).trans ((if_neg (other 4 (by decide))).trans ((if_neg (other 5 (by decide))).trans
        ((if_neg (other 6 (by decide))).trans (if_neg (other 7 (by decide)))))))))

/-- A table's identifier is the byte that names it. -/
theorem tableCode_of_tableOf {b : Byte} {t : TableId} (known : tableOf b = some t) : tableCode t = b := by
  have codes : ∀ i : Fin 8, (tableOf (BitVec.ofNat 8 i.val)).map tableCode = some (BitVec.ofNat 8 i.val) := by decide
  have small : b.toNat < 8 := by
    rw [tableOf_eq rfl] at known
    exact (List.getElem?_eq_some_iff.mp known).1
  have code := codes ⟨b.toNat, small⟩
  rw [BitVec.ofNat_toNat, BitVec.setWidth_eq, known] at code
  exact Option.some.inj code

section
variable {dest src : Byte} {s : State} (atOnce : servedAtOnce dest src 1 s)
include atOnce

theorem exec_tableOpen_served {table first n : Byte} {st : TableStore} {status : Status} {head tail : List Byte}
    (serves : ∀ m, serveTableOpen table first n (setReserved m s) = ⟨setReserved m (s.withStore st), status, head ++ tail⟩)
    (short : head.length + tail.length ≤ 9) :
    exec (.tableOpen dest src table first n) s = .next (joinAnswer (oneAnswer src 0x06 status (head ++ tail)) (s.withStore st)) :=
  congrArg Host.Outcome.next (deliver_ask_quiet atOnce (by simp [maxArgs]) (by decide) serves atOnce.2.2.1
    (by rw [List.length_append]; exact Nat.le_trans short (Nat.le_of_ble_eq_true rfl)))

theorem exec_tableRow_notices {row : List Byte} (fits : row.length ≤ maxArgs) {u : State} {status : Status} {l : Option Load}
    (serves : serveTableRow row (setReserved 1 s) = ⟨u, status, loadData l⟩) :
    exec (.tableRow dest src row) s = .next (joinAnswer (oneAnswer src 0x07 status (loadData l)) (setReserved 0 u)) := by
  refine congrArg Host.Outcome.next (deliver_ask_notices atOnce fits (by decide) (fun t => ?_) serves)
  have length : (serve 0x07 row t).data.length = 7 := tableRow_length row t
  rw [length]
  decide

theorem exec_tableRow_quiet {row : List Byte} (fits : row.length ≤ maxArgs) {st : TableStore} {status : Status} {l : Option Load}
    (serves : ∀ n, serveTableRow row (setReserved n s) = ⟨setReserved n (s.withStore st), status, loadData l⟩) :
    exec (.tableRow dest src row) s = .next (joinAnswer (oneAnswer src 0x07 status (loadData l)) (s.withStore st)) :=
  congrArg Host.Outcome.next (deliver_ask_quiet atOnce fits (by decide) serves atOnce.2.2.1 (by rw [loadData_length]; decide))

end

theorem byteSum_add (sum : BitVec 16) (row : List Byte) :
    (sum + byteSum row).toNat = (sum.toNat + (row.map BitVec.toNat).sum) % 65536 := by
  simp [byteSum, BitVec.toNat_add]

theorem rowBytes_rowOfBytes {row : List Byte} (long : row.length = 16) : rowBytes (rowOfBytes row) = row := by
  have bound : bytesNat row < 2 ^ 128 := lt_of_lt_of_eq (bytesNat_lt row) (by rw [long]; rfl)
  rw [rowBytes, rowOfBytes, BitVec.toNat_ofNat, Nat.mod_eq_of_lt bound, ← long, natBytes_bytesNat]

/-- Settles O28. -/
theorem loadsBuilt : Obligations.LoadsBuilt := by
  refine ⟨fun tables order => ⟨tableOf_eq order, fun t n number => ?_⟩, rfl, fun l => ?_,
    fun dest src table first n s atOnce discarded discards => ?_, fun dest src row s fits atOnce => ?_⟩
  · subst order
    subst number
    cases t <;> exact ⟨rfl, rfl, rfl, fun _ => rfl⟩
  · rw [loadData, natBytes_eq_map]
    simp [byteOf, receivedCount, List.range_succ]
  · have discardData_eq : discarded = discardData s.store.load := by
      rw [discards]
      cases s.store.load <;> rfl
    subst discardData_eq
    refine ⟨fun none_ => ?_, fun t known protected_ => ?_, fun t known free beyond => ?_, fun t known free within => ?_, ?_⟩
    · refine exec_tableOpen_served atOnce (st := s.store) (fun m => ?_) (by rw [loadData_length]; rfl)
      rw [serveTableOpen, none_]
      rfl
    · refine exec_tableOpen_served atOnce (st := s.store) (fun m => ?_) (by rw [loadData_length]; rfl)
      rw [serveTableOpen, known]
      exact if_pos protected_
    · refine exec_tableOpen_served atOnce (st := s.store) (fun m => ?_) (by rw [loadData_length]; rfl)
      rw [serveTableOpen, known]
      exact (if_neg (by rw [Bool.not_eq_true]; exact free)).trans (if_pos beyond)
    · refine exec_tableOpen_served atOnce (st := { s.store with load := some ⟨t, first.toNat, n.toNat + 1, [], 0⟩ }) (fun m => ?_)
        (by rw [discardData_length]; rfl)
      rw [serveTableOpen, known]
      refine (if_neg (by rw [Bool.not_eq_true]; exact free)).trans ((if_neg (Nat.not_lt.mpr within)).trans ?_)
      have code : tableCode t = table := tableCode_of_tableOf known
      have data : loadData (some ⟨t, first.toNat, n.toNat + 1, [], 0⟩) = [1, table, first, byteOf (n.toNat + 1), 0, 0, 0] := by
        have sum : natBytes 2 (0 : BitVec 16).toNat = [0, 0] := by decide
        rw [loadData, code, byteOf_toNat, sum]
        rfl
      dsimp only
      rw [data]
      rfl
    · exact congrArg Host.Outcome.next (deliver_ask_quiet atOnce (t := setLoad none s) (by simp [maxArgs]) (by decide) (fun n => rfl)
        atOnce.2.2.1 (by rw [List.length_append, discardData_length]; decide))
  · refine ⟨fun none_ => ?_, fun l open_ other => ?_, fun l open_ long full => ?_, fun l open_ long more => ?_⟩
    · refine exec_tableRow_quiet atOnce fits (st := s.store) fun n => ?_
      rw [serveTableRow, setReserved_frame s n .store (by decide), none_]
      rfl
    · refine exec_tableRow_quiet atOnce fits (st := s.store) fun n => ?_
      rw [serveTableRow, setReserved_frame s n .store (by decide), open_]
      exact if_pos other
    · refine exec_tableRow_notices atOnce fits ?_
      rw [serveTableRow, setReserved_frame s 1 .store (by decide), open_]
      exact (if_neg (not_not_intro long)).trans (if_pos full)
    · refine ⟨{ l with rows := l.rows ++ [rowOfBytes row], sum := l.sum + byteSum row }, ?_, rfl, byteSum_add _ _, rowBytes_rowOfBytes long⟩
      refine exec_tableRow_quiet atOnce fits fun n => ?_
      rw [serveTableRow, setReserved_frame s n .store (by decide), open_]
      exact (if_neg (not_not_intro long)).trans (if_neg more)

end Sys2Proof.Machine
end

section
/-! SUPPORT. The asks of a cancel head, a purge's report and the expiries of a head's timers (R106 to R114). -/

namespace Sys2Proof.Machine

/-! ## Places kept for an answer and the orders that are issued meanwhile (R180, R182) -/

theorem grantRing_keptPlaces (r : RingPort) (n : Nat) : grantRing { r with reserved := n } = { grantRing r with reserved := n } := by
  obtain ⟨own, forward, orders, answers, intake, waiting, sending, turn, counters, reserved⟩ := r
  simp only [grantRing]
  split
  · rfl
  split
  · cases orders with
    | nil => rfl
    | cons o rest => cases waiting <;> rfl
  split
  · cases forward <;> rfl
  · cases answers <;> rfl

theorem joinOrder_setReserved (o : OrderFrame) (n : Nat) (s : State) : joinOrder o (setReserved n s) = setReserved n (joinOrder o s) :=
  congrArg s.withRing (grantRing_keptPlaces { s.ring with orders := s.ring.orders ++ [o] } n)

theorem issueOrder_setReserved (p : WaitPlace) (o : OrderFrame) (n : Nat) (s : State) :
    issueOrder p o (setReserved n s) = setReserved n (issueOrder p o s) := by
  by_cases room : s.ring.orders.length < orderCapacity
  · rw [show issueOrder p o s = joinOrder o s from if_pos room]
    exact (if_pos room).trans (joinOrder_setReserved o n s)
  · rw [show issueOrder p o s = _ from if_neg room]
    exact if_neg room

theorem issueOrder_unreserved (p : WaitPlace) (o : OrderFrame) {s : State} (unreserved : s.ring.reserved = 0) :
    (issueOrder p o s).ring.reserved = 0 := by
  rcases issueOrder_cases s p o with ⟨-, e⟩ | ⟨-, e⟩
  · rw [e]
    exact (grantRing_reserved _).trans unreserved
  · rw [e]
    exact unreserved

/-- The start of a purge: the issue of its order, and its head (R110). -/
theorem startPurge_eq (h : Fin 4) (s : State) :
    startPurge h s = modifyHead h (fun k => { k with purge := some (startTimer (purgeTimeoutLength s)), state := .purging })
      (issueOrder (.purge h) ⟨headStation s.store.tables h, .purge h⟩ s) := by
  rw [startPurge, purgeTimeoutLength_congr (issueOrder_frame _ _ _ .store (by decide))]

/-! ## HEAD CONTROL (R109, R111 to R114) -/

theorem modifyHead_get_self (h : Fin 4) (f : Head → Head) (s : State) : (modifyHead h f s).heads[h] = f s.heads[h] := by
  rw [modifyHead_get, if_pos rfl]

theorem modifyHead_setReserved (h : Fin 4) (f : Head → Head) (n : Nat) (s : State) :
    modifyHead h f (setReserved n s) = setReserved n (modifyHead h f s) := rfl

theorem startPurge_setReserved (h : Fin 4) (n : Nat) (s : State) : startPurge h (setReserved n s) = setReserved n (startPurge h s) := by
  have length : purgeTimeoutLength (setReserved n s) = purgeTimeoutLength s :=
    purgeTimeoutLength_congr (setReserved_frame s n .store (by decide))
  have store : (setReserved n s).store = s.store := setReserved_frame s n .store (by decide)
  rw [startPurge_eq, startPurge_eq, length, store, issueOrder_setReserved, modifyHead_setReserved]

theorem serveHeadControl_of_action {head action : Byte} {h : Fin 4} (at_ : head.toNat = h.val) {a : HeadAction}
    (named : headActionOf action = some a) (s : State) :
    serveHeadControl head action s
      = ⟨(headAction a h s).1, (headAction a h s).2, [head, action] ++ headData (headAction a h s).1.heads[h]⟩ := by
  have number : (⟨head.toNat, at_ ▸ h.isLt⟩ : Fin 4) = h := Fin.ext at_
  rw [serveHeadControl, dif_pos (at_ ▸ h.isLt)]
  simp only [number, named]

theorem serveHeadControl_of_noAction {head action : Byte} {h : Fin 4} (at_ : head.toNat = h.val)
    (unnamed : headActionOf action = none) (s : State) :
    serveHeadControl head action s = ⟨s, .range, [head, action] ++ headData s.heads[h]⟩ := by
  have number : (⟨head.toNat, at_ ▸ h.isLt⟩ : Fin 4) = h := Fin.ext at_
  rw [serveHeadControl, dif_pos (at_ ▸ h.isLt)]
  simp only [number, unnamed]

section
variable {dest src head action : Byte} {s : State} (atOnce : servedAtOnce dest src 1 s)
include atOnce

theorem deliver_headControl_noHead (beyond : 4 ≤ head.toNat) :
    deliver dest src (.ask 0x13 [head, action]) s
      = joinAnswer (oneAnswer src 0x13 .range [head, action, 0xFF, 0xFF, 0xFF, 0xFF]) s :=
  deliver_ask_quiet atOnce (by simp [maxArgs]) (by decide) (fun _ => dif_neg (Nat.not_lt.mpr beyond)) atOnce.2.2.1
    (Nat.le_of_ble_eq_true rfl)

theorem deliver_headControl_noAction {h : Fin 4} (at_ : head.toNat = h.val) (unnamed : headActionOf action = none) :
    deliver dest src (.ask 0x13 [head, action]) s = joinAnswer (headAnswer src head action .range s.heads[h]) s :=
  deliver_ask_quiet atOnce (by simp [maxArgs]) (by decide) (fun _ => serveHeadControl_of_noAction at_ unnamed _) atOnce.2.2.1
    (Nat.le_of_ble_eq_true rfl)

/-- An action that meets no notice is answered with the head as it leaves it. -/
theorem deliver_headControl_quiet {h : Fin 4} (at_ : head.toNat = h.val) {a : HeadAction} (named : headActionOf action = some a)
    {t : State} {status : Status} {k : Head} (acts : ∀ n, headAction a h (setReserved n s) = (setReserved n t, status))
    (left : t.heads[h] = k) (unreserved : t.ring.reserved = 0) :
    deliver dest src (.ask 0x13 [head, action]) s = joinAnswer (headAnswer src head action status k) t := by
  subst left
  refine deliver_ask_quiet atOnce (by simp [maxArgs]) (by decide) (fun n => ?_) unreserved (Nat.le_of_ble_eq_true rfl)
  refine (serveHeadControl_of_action at_ named _).trans ?_
  rw [acts n]
  rfl

/-- An action that only changes the head itself. -/
theorem deliver_headControl_modify {h : Fin 4} (at_ : head.toNat = h.val) {a : HeadAction} (named : headActionOf action = some a)
    {status : Status} {f : Head → Head} (acts : ∀ n, headAction a h (setReserved n s) = (modifyHead h f (setReserved n s), status)) :
    deliver dest src (.ask 0x13 [head, action]) s
      = joinAnswer (headAnswer src head action status (f s.heads[h])) (modifyHead h f s) :=
  deliver_headControl_quiet atOnce at_ named (t := modifyHead h f s) acts (modifyHead_get_self h f s) atOnce.2.2.1

end

/-- Settles O35. The split follows the states of the head. -/
theorem headPurgeAndAbort : Obligations.HeadPurgeAndAbort := by
  intro dest src head s atOnce
  refine ⟨fun beyond => ⟨congrArg Host.Outcome.next (deliver_headControl_noHead atOnce beyond), congrArg Host.Outcome.next (deliver_headControl_noHead atOnce beyond)⟩,
    fun h k at_ same => ?_⟩
  subst same
  have purge : headActionOf 2 = some .purge := by decide
  have abort : headActionOf 3 = some .abortPurge := by decide
  have unreserved := atOnce.2.2.1
  have kept : ∀ n, (setReserved n s).heads = s.heads := fun n => setReserved_frame s n .heads (by decide)
  refine ⟨fun ready some_ k' new => ?_, fun ready empty u k' d issued length new => ?_, fun busy => ?_, fun not_ => ?_,
    fun waits k' new => ?_, fun purges first u k' issued new => ?_, fun purges again => ?_, fun not_ => ?_⟩
  · subst new
    refine congrArg Host.Outcome.next (deliver_headControl_modify atOnce at_ purge (f := fun k => { k with state := .purgeWait }) fun n => ?_)
    rw [headAction, purgeHead, kept, ready]
    exact if_neg some_
  · have left : startPurge h s = { u with heads := u.heads.set h.val k' h.isLt } := by
      have heads : u.heads = s.heads := issued ▸ issueOrder_frame _ _ _ .heads (by decide)
      subst length new
      rw [startPurge_eq, ← issued, modifyHead, updateAt, ← heads]
      rfl
    rw [← left]
    refine congrArg Host.Outcome.next (deliver_headControl_quiet atOnce at_ purge (fun n => ?_) ?_ ?_)
    · rw [headAction, purgeHead, kept, ready, startPurge_setReserved]
      exact if_pos empty
    · rw [left]
      exact Vector.getElem_set_self h.isLt
    · rw [startPurge_eq]
      exact issueOrder_unreserved _ _ unreserved
  · refine congrArg Host.Outcome.next (deliver_headControl_quiet atOnce at_ purge (t := s) (fun n => ?_) rfl unreserved)
    rw [headAction, purgeHead, kept]
    rcases busy with e | e | e <;> rw [e]
  · refine congrArg Host.Outcome.next (deliver_headControl_quiet atOnce at_ purge (t := s) (fun n => ?_) rfl unreserved)
    rw [headAction, purgeHead, kept]
    rcases not_ with e | e <;> rw [e]
  · subst new
    refine congrArg Host.Outcome.next (deliver_headControl_modify atOnce at_ abort (f := fun k => { k with state := .ready }) fun n => ?_)
    rw [headAction, abortPurgeHead, kept, waits]
  · have heads : u.heads = s.heads := issued ▸ issueOrder_frame _ _ _ .heads (by decide)
    have left : modifyHead h (fun k => { k with abort := true }) u = { u with heads := u.heads.set h.val k' h.isLt } := by
      subst new
      rw [modifyHead, updateAt, ← heads]
      rfl
    rw [← left]
    refine congrArg Host.Outcome.next (deliver_headControl_quiet atOnce at_ abort (fun n => ?_) ?_ ?_)
    · rw [headAction, abortPurgeHead, kept, purges, setReserved_frame s n .store (by decide), issueOrder_setReserved, ← issued,
        modifyHead_setReserved]
      exact if_neg (by rw [first]; decide)
    · rw [left]
      exact Vector.getElem_set_self h.isLt
    · rw [issued]
      exact issueOrder_unreserved _ _ unreserved
  · refine congrArg Host.Outcome.next (deliver_headControl_quiet atOnce at_ abort (t := s) (fun n => ?_) rfl unreserved)
    rw [headAction, abortPurgeHead, kept, purges]
    exact if_pos again
  · refine congrArg Host.Outcome.next (deliver_headControl_quiet atOnce at_ abort (t := s) (fun n => ?_) rfl unreserved)
    rw [headAction, abortPurgeHead, kept]
    rcases not_ with e | e | e | e <;> rw [e]

/-! ## Reports and expiries (R106 to R108) -/

/-- Settles O37. -/
theorem purgesRestsAndWindowsEnd : Obligations.PurgesRestsAndWindowsEnd := by
  refine ⟨fun dest src head o s addressed => ?_, fun h s d length => ⟨fun rests => ⟨_, rfl, ?_⟩, rfl, fun purges => ⟨_, rfl, ?_⟩⟩⟩
  · have taken : exec (.purgedone dest src head o) s = .next (purgedoneReport head o s) :=
      congrArg Host.Outcome.next (deliver_taken addressed (m := .purgedone head o) (by cases o <;> simp [messagePayload, maxPayload]))
    rw [taken]
    refine ⟨fun beyond => congrArg _ (dif_neg (Nat.not_lt.mpr beyond)), fun h at_ => ?_⟩
    have report : purgedoneReport head o s = purgedoneAt h o s := by
      have number : (⟨head.toNat, at_ ▸ h.isLt⟩ : Fin 4) = h := Fin.ext at_
      rw [purgedoneReport, dif_pos (at_ ▸ h.isLt), number]
    rw [report]
    refine ⟨fun purges => ⟨_, rfl, congrArg _ ((if_pos purges).trans ?_)⟩, fun other => congrArg _ (if_neg other)⟩
    cases o <;> rfl
  · refine congrArg Host.Outcome.next ((if_pos rests).trans ?_)
    subst length
    rfl
  · exact congrArg Host.Outcome.next (if_pos purges)

end Sys2Proof.Machine
end

section
/-! SUPPORT. What the notices and orders of an operation depend on: the flags, the mask, the ring port and the tables (R180, R186,
R188); and the prints that bookings give up, dropped or ended (R102, R106). -/

namespace Sys2Proof.Machine

/-! ## States that give the same notices and orders -/

/-- Two states with the same flags and mask, the same ring port and the same tables. -/
def alike (s t : State) : Prop := t.cond = s.cond ∧ t.ring = s.ring ∧ t.store = s.store

theorem alike.refl (s : State) : alike s s := ⟨rfl, rfl, rfl⟩

theorem alike.symm {s t : State} (h : alike s t) : alike t s := ⟨h.1.symm, h.2.1.symm, h.2.2.symm⟩

theorem alike.trans {s t u : State} (h : alike s t) (k : alike t u) : alike s u :=
  ⟨k.1.trans h.1, k.2.1.trans h.2.1, k.2.2.trans h.2.2⟩

theorem alike.ofFrame {bs : List Block} {s t : State} (h : changesOnly bs s t) (cond : Block.cond ∉ bs := by decide)
    (ring : Block.ring ∉ bs := by decide) (store : Block.store ∉ bs := by decide) : alike s t :=
  ⟨h .cond cond, h .ring ring, h .store store⟩

theorem alike.signals {s t : State} (h : alike s t) : t.cond = s.cond ∧ t.ring = s.ring := ⟨h.1, h.2.1⟩

section
variable {s t : State} (h : alike s t)
include h

theorem alike.modifyCounters (f : LinkCounters → LinkCounters) :
    alike (Machine.modifyCounters f s) (Machine.modifyCounters f t) := by
  obtain ⟨cond, ring, store⟩ := h
  refine ⟨cond, ?_, store⟩
  rw [Machine.modifyCounters, Machine.modifyCounters, ring]
  rfl

theorem alike.markFlag (f : ConditionFlag) : alike (Machine.markFlag f s) (Machine.markFlag f t) := by
  obtain ⟨cond, ring, store⟩ := h
  refine ⟨?_, ring, store⟩
  rw [Machine.markFlag, Machine.markFlag, cond]
  rfl

theorem alike.joinAnswer (a : Reply) : alike (Machine.joinAnswer a s) (Machine.joinAnswer a t) := by
  obtain ⟨cond, ring, store⟩ := h
  refine ⟨cond, ?_, store⟩
  rw [Machine.joinAnswer, Machine.joinAnswer, ring]
  rfl

theorem alike.joinOrder (o : OrderFrame) : alike (Machine.joinOrder o s) (Machine.joinOrder o t) := by
  obtain ⟨cond, ring, store⟩ := h
  refine ⟨cond, ?_, store⟩
  rw [Machine.joinOrder, Machine.joinOrder, ring]
  rfl

theorem alike.issueOrder (p : WaitPlace) (o : OrderFrame) : alike (Machine.issueOrder p o s) (Machine.issueOrder p o t) := by
  have ring := h.2.1
  rw [Machine.issueOrder, Machine.issueOrder, ring]
  split
  · exact h.joinOrder o
  · exact ⟨h.1, rfl, h.2.2⟩

theorem alike.sendNotice (n : Reply) : alike (Machine.sendNotice n s) (Machine.sendNotice n t) := by
  have places : freeAnswerPlaces t = freeAnswerPlaces s := by rw [freeAnswerPlaces, freeAnswerPlaces, h.2.1]
  rw [Machine.sendNotice, Machine.sendNotice, places]
  split
  · exact (h.modifyCounters _).markFlag _
  · exact h.joinAnswer n

theorem alike.noticeStation : Machine.noticeStation t = Machine.noticeStation s := by
  rw [Machine.noticeStation, Machine.noticeStation, h.2.2]

theorem alike.sendHalt (c : HaltCause) : alike (Machine.sendHalt c s) (Machine.sendHalt c t) := by
  rw [Machine.sendHalt, Machine.sendHalt, h.noticeStation]
  exact h.sendNotice _

theorem alike.flagSet (f : ConditionFlag) : Machine.flagSet t f = Machine.flagSet s f := by
  rw [Machine.flagSet, Machine.flagSet, h.1]

theorem alike.setFlag (f : ConditionFlag) : alike (Machine.setFlag f s) (Machine.setFlag f t) := by
  have masked : flagMasked t f = flagMasked s f := by rw [flagMasked, flagMasked, h.1]
  rw [Machine.setFlag, Machine.setFlag, h.flagSet, masked, h.noticeStation]
  split
  · exact h
  split
  · exact h.markFlag f
  · exact (h.markFlag f).sendNotice _

theorem alike.count {i : Fin 64} (live : t.tally.live[i] = s.tally.live[i]) : alike (Machine.count i s) (Machine.count i t) := by
  have tally : ∀ u : State, alike u (u.withTally (countLive u.tally i)) := fun u => .ofFrame (withTally_frame u _)
  have both := ((tally s).symm.trans h).trans (tally t)
  rw [Machine.count, Machine.count, live]
  split
  · exact both.setFlag _
  · exact both

/-- A counter below its last value changes nothing but itself. -/
theorem alike.count_below {i : Fin 64} (below : t.tally.live[i].toNat < 4294967295) : alike s (Machine.count i t) := by
  rw [Machine.count_below below]
  exact h.trans (.ofFrame (withTally_frame t _))

theorem alike.lampOrder (n : Fin 8) (c : LampCondition) : Machine.lampOrder t n c = Machine.lampOrder s n c := by
  rw [Machine.lampOrder, Machine.lampOrder, lampPatternFor.eq_def, lampPatternFor.eq_def]
  unfold stackerInForce
  rw [h.2.2]

theorem alike.lampConditionOf {n : Fin 8} (stacker : t.stackers[n] = s.stackers[n]) :
    Machine.lampConditionOf t n = Machine.lampConditionOf s n := by
  unfold Machine.lampConditionOf stackerInForce committed
  rw [h.2.2, stacker]

theorem alike.enterFull (n : Fin 8) : alike (Machine.enterFull n s) (Machine.enterFull n t) := by
  unfold Machine.enterFull
  split
  · exact (h.setFlag _).sendHalt _
  · exact h.setFlag _

theorem alike.issueLamp {n : Fin 8} (lamp : t.stackers[n].lamp = s.stackers[n].lamp) :
    alike (Machine.issueLamp n s) (Machine.issueLamp n t) := by
  rw [Machine.issueLamp, Machine.issueLamp, lamp, h.lampOrder]
  exact h.issueOrder _ _

theorem alike.recomputeLamp {n : Fin 8} (stacker : t.stackers[n] = s.stackers[n]) :
    alike (Machine.recomputeLamp n s) (Machine.recomputeLamp n t) := by
  have modified : ∀ u : State, alike u (modifyStacker n (fun k => { k with lamp := Machine.lampConditionOf s n }) u) := fun u =>
    .ofFrame (modifyStacker_frame u _ _)
  have both := ((modified s).symm.trans h).trans (modified t)
  unfold Machine.recomputeLamp
  dsimp only
  rw [stacker, h.lampConditionOf stacker]
  split
  · exact h
  have issued := both.issueLamp (n := n) (by rw [modifyStacker_get, modifyStacker_get, if_pos rfl, if_pos rfl])
  split
  · exact issued.enterFull n
  · exact issued

end

theorem alike.foldl {α : Type} {f g : State → α → State} (each : ∀ s t a, alike s t → alike (f s a) (g t a)) (xs : List α) {s t : State}
    (h : alike s t) : alike (xs.foldl f s) (xs.foldl g t) := by
  induction xs generalizing s t with
  | nil => exact h
  | cons x xs ih => exact ih (each s t x h)

/-- A fold over heads, each step of which acts on the head itself and signals by the head as it was before the fold. -/
theorem alike.foldHeads {f : State → Fin 4 → State} {g : Fin 4 → State → State} {s : State}
    (acts : ∀ w t j, alike w t → t.store = s.store → t.heads[j] = s.heads[j] → alike (g j w) (f t j))
    (other : ∀ t h j, j ≠ h → (f t h).heads[j] = t.heads[j]) (store : ∀ t h, (f t h).store = t.store) {hs : List (Fin 4)}
    (nodup : hs.Nodup) : ∀ w t, alike w t → t.store = s.store → (∀ j ∈ hs, t.heads[j] = s.heads[j]) → alike (hs.foldl (fun w j => g j w) w) (hs.foldl f t) := by
  induction hs with
  | nil => exact fun w t same _ _ => same
  | cons h hs ih =>
    intro w t same tables untouched
    obtain ⟨notIn, nodup'⟩ := List.nodup_cons.mp nodup
    refine ih nodup' _ _ (acts w t h same tables (untouched h List.mem_cons_self)) ((store t h).trans tables) fun j mem => ?_
    have apart : j ≠ h := fun e => notIn (by rwa [e] at mem)
    rw [other t h j apart]
    exact untouched j (List.mem_cons_of_mem _ mem)

/-! ## The prints that bookings give up (R102, R106) -/

/-- A letter whose print has got a status. -/
def withPrintStatus (st : PrintStatus) (l : Letter) : Letter := { l with print := l.print.map fun p => { p with status := st } }

/-- The letters of the track once the prints of a list of bookings have got a status. -/
def lettersPrinted (st : PrintStatus) (bs : List Booking) (ls : List Letter) : List Letter :=
  ls.map fun l => if bs.any (fun b => b.tag = l.seq) then withPrintStatus st l else l

/-- One booking given up: its letter's print gets a status and a tally counts it. -/
def settlePrint (i : Fin 64) (st : PrintStatus) (s : State) (b : Booking) : State := count i (setPrintStatus b.tag st s)

theorem expireBooking_eq : expireBooking = settlePrint tallyPrinted .done := rfl

theorem settlePrint_frame (i : Fin 64) (st : PrintStatus) (s : State) (b : Booking) :
    changesOnly [.track, .tally, .cond, .ring] s (settlePrint i st s b) :=
  (count_frame _ _).chain ((setPrintStatus_frame s _ _).mono rfl) rfl

section
variable {i : Fin 64} {st : PrintStatus}

theorem settlePrint_track (s : State) (b : Booking) :
    (settlePrint i st s b).track = { s.track with letters := lettersPrinted st [b] s.track.letters } := by
  refine (count_frame _ i .track (by decide)).trans ?_
  refine congrArg (fun ls => { s.track with letters := ls }) (List.map_congr_left fun l _ => ?_)
  rw [List.any_cons, List.any_nil, Bool.or_false]
  by_cases own : l.seq = b.tag
  · rw [if_pos own, if_pos (decide_eq_true own.symm)]
    rfl
  · rw [if_neg own, if_neg fun e => own (of_decide_eq_true e).symm]

theorem lettersPrinted_cons (b : Booking) (bs : List Booking) (ls : List Letter) :
    lettersPrinted st bs (lettersPrinted st [b] ls) = lettersPrinted st (b :: bs) ls := by
  refine (List.map_map ..).trans (List.map_congr_left fun l _ => ?_)
  have twice : withPrintStatus st (withPrintStatus st l) = withPrintStatus st l := by
    rw [withPrintStatus, withPrintStatus, Option.map_map]
    rfl
  have seq : (withPrintStatus st l).seq = l.seq := rfl
  by_cases own : b.tag = l.seq
  · by_cases other : bs.any fun b => b.tag = l.seq <;> simp [own, seq, twice]
  · simp [own]

theorem settlePrints_track (bs : List Booking) : ∀ s : State,
    (bs.foldl (settlePrint i st) s).track = { s.track with letters := lettersPrinted st bs s.track.letters } := by
  induction bs with
  | nil => exact fun s => by simp [lettersPrinted]
  | cons b bs ih =>
    intro s
    rw [List.foldl_cons, ih, settlePrint_track]
    simp only [lettersPrinted_cons]

theorem settlePrint_live (s : State) (b : Booking) (j : Fin 64) :
    (settlePrint i st s b).tally.live[j] = if j = i then s.tally.live[j] + 1 else s.tally.live[j] := by
  have tally : (setPrintStatus b.tag st s).tally = s.tally := setPrintStatus_frame s _ _ .tally (by decide)
  rw [settlePrint, count_tally, countLive_get, tally]

theorem settlePrints_live (bs : List Booking) : ∀ (s : State) (j : Fin 64),
    (bs.foldl (settlePrint i st) s).tally.live[j]
      = if j = i then s.tally.live[j] + BitVec.ofNat 32 bs.length else s.tally.live[j] := by
  induction bs with
  | nil => exact fun s j => by simp
  | cons b bs ih =>
    intro s j
    rw [List.foldl_cons, ih, settlePrint_live]
    split
    · rw [List.length_cons, BitVec.add_assoc]
      congr 1
      apply BitVec.eq_of_toNat_eq
      simp [Nat.add_comm]
    · rfl

/-- Where the counter does not wrap, the flags and the ring port stand. -/
theorem settlePrints_alike (bs : List Booking) : ∀ s : State, s.tally.live[i].toNat + bs.length < 4294967296 →
    alike s (bs.foldl (settlePrint i st) s) := by
  induction bs with
  | nil => exact fun s _ => .refl s
  | cons b bs ih =>
    intro s small
    rw [List.length_cons] at small
    have tally : (setPrintStatus b.tag st s).tally = s.tally := setPrintStatus_frame s _ _ .tally (by decide)
    have one : alike s (settlePrint i st s b) :=
      (alike.ofFrame (setPrintStatus_frame s b.tag st)).count_below (by rw [tally]; omega)
    refine one.trans (ih _ ?_)
    have unit : (1 : BitVec 32).toNat = 1 := rfl
    rw [settlePrint_live, if_pos rfl, BitVec.toNat_add, unit]
    omega

end

end Sys2Proof.Machine
end

section
/-! SUPPORT. Bookings dropped and ended: HEAD CONTROL with ENABLE and DISABLE, and an advance at the plan and at the heads (R91,
R102, R106, R110, R112, R113). -/

namespace Sys2Proof.Machine

/-! ## Dropped bookings (R106) -/

theorem modifyHead_heads (h : Fin 4) (f : Head → Head) (s : State) :
    (modifyHead h f s).heads = s.heads.set h.val (f s.heads[h]) h.isLt := rfl

/-- A drop without its flag. -/
def dropped (h : Fin 4) (s : State) : State :=
  s.heads[h].bookings.foldl (settlePrint tallyPrintfail .failed) (modifyHead h (fun k => { k with bookings := [] }) s)

theorem dropBookings_eq (h : Fin 4) (s : State) :
    dropBookings h s = if s.heads[h].bookings = [] then dropped h s else setFlag .printfail (dropped h s) := rfl

theorem dropBookings_afterDropped (h : Fin 4) (s : State) : changesOnly [.cond, .ring] (dropped h s) (dropBookings h s) := by
  rw [dropBookings_eq]
  exact changesOnly.iteSame (changesOnly.refl _ _) (setFlag_frame _ _)

theorem dropBookings_track (h : Fin 4) (s : State) :
    (dropBookings h s).track = { s.track with letters := lettersPrinted .failed s.heads[h].bookings s.track.letters } := by
  rw [dropBookings_afterDropped h s .track (by decide), dropped, settlePrints_track]
  rfl

theorem dropBookings_live (h : Fin 4) (s : State) (i : Fin 64) :
    (dropBookings h s).tally.live[i]
      = if i = tallyPrintfail then s.tally.live[i] + BitVec.ofNat 32 s.heads[h].bookings.length else s.tally.live[i] := by
  rw [dropBookings_afterDropped h s .tally (by decide), dropped, settlePrints_live]
  rfl

theorem dropBookings_sets (h : Fin 4) (s : State) (some_ : s.heads[h].bookings ≠ []) : flagSet (dropBookings h s) .printfail = true := by
  rw [dropBookings_eq, if_neg some_]
  exact setFlag_sets _ _

theorem dropBookings_alike (h : Fin 4) (s : State)
    (small : s.tally.live[tallyPrintfail].toNat + s.heads[h].bookings.length < 4294967296) :
    alike (if s.heads[h].bookings = [] then s else setFlag .printfail s) (dropBookings h s) := by
  have all : alike s (dropped h s) :=
    (alike.ofFrame (modifyHead_frame s h fun k => { k with bookings := [] })).trans
      (settlePrints_alike _ (modifyHead h (fun k => { k with bookings := [] }) s) small)
  rw [dropBookings_eq]
  split
  · exact all
  · exact all.setFlag _

/-! ## ENABLE and DISABLE (R112, R113) -/

/-- An action that may meet notices is answered behind them with the head as it leaves it. -/
theorem deliver_headControl_notices {dest src head action : Byte} {s : State} (atOnce : servedAtOnce dest src 1 s) {h : Fin 4}
    (at_ : head.toNat = h.val) {a : HeadAction} (named : headActionOf action = some a) {u : State} {status : Status} {k : Head}
    (acts : headAction a h (setReserved 1 s) = (u, status)) (left : u.heads[h] = k) :
    deliver dest src (.ask 0x13 [head, action]) s = joinAnswer (headAnswer src head action status k) (setReserved 0 u) := by
  subst left
  have short : ∀ s, (serve 0x13 [head, action] s).data.length ≤ partSize := fun s => by
    have length : (serve 0x13 [head, action] s).data.length = 6 := headControl_length head action s
    rw [length]
    decide
  refine deliver_ask_notices atOnce (by simp [maxArgs]) (by decide) short ?_
  refine (serveHeadControl_of_action at_ named _).trans ?_
  rw [acts]
  rfl

theorem headActionOf_none {action : Byte} (beyond : 5 ≤ action.toNat) : headActionOf action = none := by
  have other : ∀ n : Nat, n < 5 → action ≠ BitVec.ofNat 8 n := fun n small e => by
    rw [e, BitVec.toNat_ofNat] at beyond
    omega
  exact (if_neg (other 0 (by decide))).trans ((if_neg (other 1 (by decide))).trans ((if_neg (other 2 (by decide))).trans
    ((if_neg (other 3 (by decide))).trans (if_neg (other 4 (by decide))))))

/-- Settles O34. The split follows the states of the head; what a drop does stands in lemmas of its own. -/
theorem headEnableDisableStatus : Obligations.HeadEnableDisableStatus := by
  refine ⟨fun dest src head s atOnce => ⟨fun beyond => ?_, fun h k at_ same => ?_⟩, fun dest src head action s atOnce beyond => ?_,
    fun st => by cases st <;> rfl, fun o => by cases o <;> rfl, fun h s bookings t gone drops => ?_⟩
  · have refused : ∀ action, deliver dest src (.ask 0x13 [head, action]) s = _ := fun action => deliver_headControl_noHead atOnce beyond
    exact ⟨congrArg Host.Outcome.next (refused 0), congrArg Host.Outcome.next (refused 1), congrArg Host.Outcome.next (refused 4)⟩
  · subst same
    have unreserved := atOnce.2.2.1
    have kept : ∀ n, (setReserved n s).heads = s.heads := fun n => setReserved_frame s n .heads (by decide)
    have enable : headActionOf 0 = some .enable := by decide
    refine ⟨fun not_ k' new => ?_, fun rests k' new => ?_, fun ready => ?_, fun busy => ?_, fun u k' drops new => ?_, ?_⟩
    · subst new
      refine congrArg Host.Outcome.next
        (deliver_headControl_modify atOnce at_ enable (f := fun k => { k with state := .ready, faultWindow := none }) fun n => ?_)
      rw [headAction, enableHead, kept]
      rcases not_ with e | e <;> rw [e]
    · subst new
      refine congrArg Host.Outcome.next (deliver_headControl_modify atOnce at_ enable
        (f := fun k => { k with restart := none, state := .ready, faultWindow := openWindow s }) fun n => ?_)
      rw [headAction, enableHead, kept, rests]
      rfl
    · refine congrArg Host.Outcome.next (deliver_headControl_quiet atOnce at_ enable (t := s) (fun n => ?_) rfl unreserved)
      rw [headAction, enableHead, kept, ready]
    · refine congrArg Host.Outcome.next (deliver_headControl_quiet atOnce at_ enable (t := s) (fun n => ?_) rfl unreserved)
      rw [headAction, enableHead, kept]
      rcases busy with e | e <;> rw [e]
    · subst new
      have before : (dropBookings h (setReserved 1 s)).heads[h] = { s.heads[h] with bookings := [] } := by
        rw [dropBookings_get, if_pos rfl]
        rfl
      have heads : (dropBookings h (setReserved 1 s)).heads = s.heads.set h.val { s.heads[h] with bookings := [] } h.isLt :=
        dropBookings_heads _ h
      have disable : headActionOf 1 = some .disable := by decide
      refine congrArg Host.Outcome.next
        ((deliver_headControl_notices atOnce at_ disable (u := disableHead h (setReserved 1 s)) (status := .ok) rfl ?_).trans
          (congrArg (joinAnswer _) ?_))
      · rw [disableHead, modifyHead_get_self, before]
      · subst drops
        have set : (setReserved 0 (dropBookings h (setReserved 1 s))).heads = s.heads.set h.val { s.heads[h] with bookings := [] } h.isLt :=
          heads
        rw [set, Vector.set_set]
        have disabled : (disableHead h (setReserved 1 s)).heads = s.heads.set h.val { s.heads[h] with
            bookings := [], restart := none, purge := none, faultWindow := none, abort := false, state := .disabled } h.isLt := by
          rw [disableHead, modifyHead_heads, before, heads, Vector.set_set]
        rw [← disabled]
        rfl
    · exact congrArg Host.Outcome.next
        (deliver_headControl_quiet atOnce at_ (by decide : headActionOf 4 = some .status) (t := s) (fun n => rfl) rfl unreserved)
  · refine ⟨fun noHead => congrArg Host.Outcome.next (deliver_headControl_noHead atOnce noHead), fun h k at_ same => ?_⟩
    exact same ▸ congrArg Host.Outcome.next (deliver_headControl_noAction atOnce at_ (headActionOf_none beyond))
  · subst gone drops
    refine ⟨dropBookings_heads s h, dropBookings_track h s, ?_, fun i other => ?_, dropBookings_sets h s, fun small u same => ?_,
      (dropBookings_frame s h).mono rfl⟩
    · rw [dropBookings_live, if_pos rfl]
    · rw [dropBookings_live, if_neg other]
    · exact same ▸ (dropBookings_alike h s small).signals

/-! ## An advance at the plan and at the heads (R91, R102) -/

theorem expireBookings_eq (s : State) : expireBookings s = expireHead 3 (expireHead 2 (expireHead 1 (expireHead 0 s))) := by
  have four : List.finRange 4 = [0, 1, 2, 3] := by decide
  rw [expireBookings, four, List.foldl_cons, List.foldl_cons, List.foldl_cons, List.foldl_cons, List.foldl_nil]

/-- Settles O42. -/
theorem planRetirement : Obligations.PlanRetirement := by
  refine ⟨fun s => ⟨s.routing.plan.takeWhile fun e => atOrPast s.position.belt e.retire, retireEntries s.position.belt s.routing.plan,
      List.takeWhile_append_dropWhile.symm, fun e he => ?_, fun e first => ?_, rfl⟩, fun s => expireBookings_eq s,
    fun h s gone rest list reached next => ?_⟩
  · exact List.mem_takeWhile_imp (p := fun e : PlanEntry => atOrPast s.position.belt e.retire) he
  · have no := List.head?_dropWhile_not (fun e : PlanEntry => atOrPast s.position.belt e.retire) s.routing.plan
    rw [show (s.routing.plan.dropWhile fun e => atOrPast s.position.belt e.retire).head? = some e from first] at no
    exact no
  have front : expired s.position.belt s.heads[h].bookings = gone := by
    have past : ∀ b ∈ gone, atOrPast s.position.belt b.stop = true := fun b hb => decide_eq_true (reached b hb)
    rw [list, expired, List.takeWhile_append_of_pos past]
    cases rest with
    | nil => simp
    | cons b rest =>
      have stops : atOrPast s.position.belt b.stop = false := decide_eq_false (Nat.not_lt.mpr (next b rfl))
      rw [List.takeWhile_cons_of_neg (by rw [stops]; decide), List.append_nil]
  have expires : expireHead h s = if gone = [] then s else
      proceedIfEmpty h (gone.foldl expireBooking (modifyHead h (fun k => { k with bookings := k.bookings.drop gone.length }) s)) := by
    rw [expireHead, front]
  refine ⟨fun none_ => by rw [expires, if_pos none_], fun some_ => ?_⟩
  rw [expires, if_neg some_, expireBooking_eq]
  have left : { s.heads[h] with bookings := s.heads[h].bookings.drop gone.length } = { s.heads[h] with bookings := rest } := by
    rw [list, List.drop_left]
  have shortened : (modifyHead h (fun k => { k with bookings := k.bookings.drop gone.length }) s).heads
      = s.heads.set h.val { s.heads[h] with bookings := rest } h.isLt := by
    rw [modifyHead_heads, left]
  have frame := modifyHead_frame s h fun k => { k with bookings := k.bookings.drop gone.length }
  generalize modifyHead h (fun k => { k with bookings := k.bookings.drop gone.length }) s = v at shortened frame ⊢
  have settled := changesOnly.foldl (settlePrint_frame tallyPrinted .done) gone v
  have heads := (settled .heads (by decide)).trans shortened
  have both : changesOnly [.heads, .track, .tally, .cond, .ring] s (gone.foldl (settlePrint tallyPrinted .done) v) :=
    settled.chain (frame.mono rfl) rfl
  have at_ : (gone.foldl (settlePrint tallyPrinted .done) v).heads[h] = { s.heads[h] with bookings := rest } := by
    rw [heads]
    exact Vector.getElem_set_self h.isLt
  have tally : v.tally = s.tally := frame .tally (by decide)
  refine ⟨_, heads, ?_, ?_, fun i other => ?_, fun small => ?_, both, fun stays => ?_, fun waits empty d length w k issued new => ?_⟩
  · rw [settlePrints_track, frame .track (by decide)]
    rfl
  · rw [settlePrints_live, if_pos rfl, tally]
  · rw [settlePrints_live, if_neg other, tally]
  · exact ((alike.ofFrame frame).trans (settlePrints_alike gone v (by rwa [tally]))).signals
  · refine if_neg fun proceeds => ?_
    rw [at_] at proceeds
    exact stays.elim (fun other => other proceeds.1) fun other => other proceeds.2
  · have store := both .store (by decide)
    subst empty new length
    refine (if_pos (by rw [at_]; exact ⟨waits, rfl⟩)).trans ?_
    rw [startPurge_eq, store, ← issued, modifyHead, updateAt]
    have kept : w.heads = s.heads.set h.val { s.heads[h] with bookings := [] } h.isLt :=
      (issued ▸ issueOrder_frame _ _ _ .heads (by decide)).trans heads
    have get : w.heads[h] = { s.heads[h] with bookings := [] } := by
      rw [kept]
      exact Vector.getElem_set_self h.isLt
    rw [get, kept, Vector.set_set]
    have same : purgeTimeoutLength (gone.foldl (settlePrint tallyPrinted .done) v) = purgeTimeoutLength s := purgeTimeoutLength_congr store
    rw [same]
    rfl

end Sys2Proof.Machine
end

section
/-! SUPPORT. A HEADFAULT report by the state of the head, with its drop and its tag (R104 to R106). -/

namespace Sys2Proof.Machine

section
variable (h : Fin 4) (tag : Option Seq) (latched : Bool) (s : State)

/-! ## The tag (R105) -/

/-- A tag that spoils a DONE print of the head. -/
def spoils (ls : List Letter) : Prop :=
  ∃ q l p, tag = some q ∧ ls.find? (fun l => l.seq = q) = some l ∧ l.print = some p ∧ p.head = h ∧ p.status = .done

/-- The tag's share of a HEADFAULT. -/
def takeTag : State :=
  match tag with
  | none => s
  | some t => faultTag h t s

variable {h tag s}

theorem takeTag_spoils (sp : spoils h tag s.track.letters) : ∃ q, tag = some q
    ∧ takeTag h tag s = setFlag .printfail (count tallyPrintfail (setPrintStatus q .failed s)) := by
  obtain ⟨q, l, p, rfl, found, print, head, done⟩ := sp
  refine ⟨q, rfl, ?_⟩
  rw [takeTag, faultTag, findLetter, found]
  simp only [print]
  exact if_pos ⟨head, done⟩

theorem takeTag_clean (clean : ¬ spoils h tag s.track.letters) : takeTag h tag s = s := by
  cases tag with
  | none => rfl
  | some q =>
    rw [takeTag, faultTag, findLetter]
    split
    · rfl
    · next l found =>
      split
      · rfl
      · next p print => exact if_neg fun ⟨head, done⟩ => clean ⟨q, l, p, rfl, found, print, head, done⟩

variable (h tag s)

theorem takeTag_keepsFlag (f : ConditionFlag) (set : flagSet s f = true) : flagSet (takeTag h tag s) f = true := by
  by_cases sp : spoils h tag s.track.letters
  · obtain ⟨q, -, taken⟩ := takeTag_spoils sp
    rw [taken]
    refine setFlag_keeps _ _ _ ?_
    exact (count_signals _ tallyPrintfail).flags (((setPrintStatus_frame s q .failed) .cond (by decide)) ▸ set)
  · rwa [takeTag_clean sp]

theorem takeTag_live (i : Fin 64) :
    (spoils h tag s.track.letters → (takeTag h tag s).tally.live[i] = if i = tallyPrintfail then s.tally.live[i] + 1 else s.tally.live[i])
    ∧ (¬ spoils h tag s.track.letters → (takeTag h tag s).tally.live[i] = s.tally.live[i]) := by
  refine ⟨fun sp => ?_, fun clean => by rw [takeTag_clean clean]⟩
  obtain ⟨q, -, taken⟩ := takeTag_spoils sp
  rw [taken, setFlag_frame _ .printfail .tally (by decide), count_tally, countLive_get,
    setPrintStatus_frame s q .failed .tally (by decide)]

/-! ## What follows the state change -/

theorem afterFault_eq : afterFault h tag latched s
    = if latched then setFlag .headlatch (takeTag h tag (setFlag .headfault s)) else takeTag h tag (setFlag .headfault s) := by
  cases tag <;> rfl

theorem afterFault_keepsFlag (f : ConditionFlag) (set : flagSet (setFlag .headfault s) f = true) :
    flagSet (afterFault h tag latched s) f = true := by
  rw [afterFault_eq]
  split
  · exact setFlag_keeps _ _ _ (takeTag_keepsFlag h tag _ f set)
  · exact takeTag_keepsFlag h tag _ f set

theorem afterFault_headlatch : flagSet (afterFault h tag true s) .headlatch = true := by
  rw [afterFault_eq, if_pos rfl]
  exact setFlag_sets _ _

theorem afterFault_afterTag : changesOnly [.cond, .ring] (takeTag h tag (setFlag .headfault s)) (afterFault h tag latched s) := by
  rw [afterFault_eq]
  exact changesOnly.iteSame (setFlag_frame _ _) (changesOnly.refl _ _)

/-! ## A HEADFAULT by the state of the head (R104) -/

/-- The state once a fault has dropped the bookings of a head that may hold some. -/
def afterDrop : State := if s.heads[h].state = .ready ∨ s.heads[h].state = .purgeWait then dropBookings h s else s

/-- The bookings that a fault drops. -/
def faultDrops : List Booking := if s.heads[h].state = .ready ∨ s.heads[h].state = .purgeWait then s.heads[h].bookings else []

theorem afterDrop_track :
    (afterDrop h s).track = { s.track with letters := lettersPrinted .failed (faultDrops h s) s.track.letters } := by
  unfold afterDrop faultDrops
  split
  · exact dropBookings_track h s
  · simp [lettersPrinted]

theorem afterDrop_live (i : Fin 64) :
    (afterDrop h s).tally.live[i]
      = if i = tallyPrintfail then s.tally.live[i] + BitVec.ofNat 32 (faultDrops h s).length else s.tally.live[i] := by
  unfold afterDrop faultDrops
  split
  · exact dropBookings_live h s i
  · simp

variable {h s}

theorem headfaultAt_rests (held : s.heads[h].state = .ready ∨ s.heads[h].state = .purgeWait) (closed : s.heads[h].faultWindow = none) :
    headfaultAt h tag s = afterFault h tag false
      (modifyHead h (fun k => { k with restart := some (startTimer (restartDelay s)), state := .resting }) (dropBookings h s)) := by
  have delay : restartDelay (dropBookings h s) = restartDelay s := by
    have store : (dropBookings h s).store = s.store := dropBookings_frame s h .store (by decide)
    rw [restartDelay, restartDelay, geometryCommitted, geometryCommitted, store]
  unfold headfaultAt
  rw [closed, ← delay]
  rcases held with e | e <;> rw [e] <;> rfl

theorem headfaultAt_latches (held : s.heads[h].state = .ready ∨ s.heads[h].state = .purgeWait)
    (opened : s.heads[h].faultWindow.isSome = true) :
    headfaultAt h tag s = afterFault h tag true
      (modifyHead h (fun k => { k with faultWindow := none, state := .latched }) (dropBookings h s)) := by
  unfold headfaultAt
  rw [opened]
  rcases held with e | e <;> rw [e] <;> rfl

theorem headfaultAt_resting (rests : s.heads[h].state = .resting) :
    headfaultAt h tag s = afterFault h tag true
      (modifyHead h (fun k => { k with restart := none, state := .latched, faultWindow := none }) s) := by
  unfold headfaultAt
  rw [rests]

theorem headfaultAt_purging (purges : s.heads[h].state = .purging) :
    headfaultAt h tag s = afterFault h tag true
      (modifyHead h (fun k => { k with purge := none, abort := false, state := .latched, faultWindow := none }) s) := by
  unfold headfaultAt
  rw [purges]

theorem headfaultAt_stray (out : s.heads[h].state = .disabled ∨ s.heads[h].state = .latched) :
    headfaultAt h tag s = countStrayReport s := by
  unfold headfaultAt
  rcases out with e | e <;> rw [e]

/-- A fault of a head in use: its drop, a change of the head, and what follows. -/
theorem headfaultAt_eq (enabled : s.heads[h].state ≠ .disabled) (unlatched : s.heads[h].state ≠ .latched) :
    ∃ f, headfaultAt h tag s = afterFault h tag
      (decide (s.heads[h].state = .resting ∨ s.heads[h].state = .purging ∨ s.heads[h].faultWindow.isSome = true))
      (modifyHead h f (afterDrop h s)) := by
  have dropping : (s.heads[h].state = .ready ∨ s.heads[h].state = .purgeWait) →
      s.heads[h].state ≠ .resting ∧ s.heads[h].state ≠ .purging := by
    rintro (e | e) <;> rw [e] <;> decide
  by_cases held : s.heads[h].state = .ready ∨ s.heads[h].state = .purgeWait
  · rw [afterDrop, if_pos held]
    obtain ⟨notResting, notPurging⟩ := dropping held
    cases window : s.heads[h].faultWindow with
    | none =>
      rw [decide_eq_false (by rintro (e | e | e); exacts [notResting e, notPurging e, nomatch e])]
      exact ⟨_, headfaultAt_rests tag held window⟩
    | some w =>
      rw [decide_eq_true (.inr (.inr rfl))]
      exact ⟨_, headfaultAt_latches tag held (by rw [window]; rfl)⟩
  · rw [afterDrop, if_neg held]
    cases e : s.heads[h].state with
    | disabled => exact absurd e enabled
    | latched => exact absurd e unlatched
    | ready => exact absurd (.inl e) held
    | purgeWait => exact absurd (.inr e) held
    | resting =>
      rw [decide_eq_true (.inl rfl)]
      exact ⟨_, headfaultAt_resting tag e⟩
    | purging =>
      rw [decide_eq_true (.inr (.inl rfl))]
      exact ⟨_, headfaultAt_purging tag e⟩

end

theorem exec_headfault_taken {dest src head : Byte} {tag : Option Seq} {s : State} (addressed : addressedToPart dest src s) :
    exec (.headfault dest src head tag) s = .next (headfaultReport head tag s) :=
  congrArg Host.Outcome.next (deliver_taken addressed (m := .headfault head tag)
    (by cases tag <;> simp [messagePayload, maxPayload]))

/-- Settles O36. The split follows the states of the head. -/
theorem headFaultTaken : Obligations.HeadFaultTaken := by
  intro dest src head tag s addressed
  rw [exec_headfault_taken addressed]
  refine ⟨fun beyond => congrArg Host.Outcome.next (dif_neg (Nat.not_lt.mpr beyond)), fun h k at_ same => ?_⟩
  subst same
  have report : headfaultReport head tag s = headfaultAt h tag s := by
    have number : (⟨head.toNat, at_ ▸ h.isLt⟩ : Fin 4) = h := Fin.ext at_
    rw [headfaultReport, dif_pos (at_ ▸ h.isLt), number]
  rw [report]
  have frame : ∀ t, headfaultAt h tag s = t → s.heads[h].state ≠ .disabled → s.heads[h].state ≠ .latched →
      changesOnly [.heads, .track, .tally, .cond, .ring] s t := by
    intro t e enabled unlatched
    obtain ⟨f, faults⟩ := headfaultAt_eq tag enabled unlatched
    have drop : changesOnly [.heads, .track, .tally, .cond, .ring] s (afterDrop h s) :=
      changesOnly.iteSame ((dropBookings_frame s h).mono rfl) (changesOnly.refl _ _)
    rw [← e, faults]
    exact (afterFault_frame _ _ _ _).chain ((modifyHead_frame _ _ _).chain drop rfl) rfl
  have inUse : s.heads[h].state = .ready ∨ s.heads[h].state = .purgeWait ∨ s.heads[h].state = .resting ∨ s.heads[h].state = .purging →
      s.heads[h].state ≠ .disabled ∧ s.heads[h].state ≠ .latched := by
    rintro (e | e | e | e) <;> rw [e] <;> decide
  have dropped : ∀ f : Head → Head, (modifyHead h f (dropBookings h s)).heads
      = s.heads.set h.val (f { s.heads[h] with bookings := [] }) h.isLt := by
    intro f
    rw [modifyHead_heads, dropBookings_get, if_pos rfl, dropBookings_heads, modifyHead_heads, Vector.set_set]
  refine ⟨fun out => congrArg Host.Outcome.next (headfaultAt_stray tag out), fun held closed d delay => ?_, fun held opened => ?_,
    fun held => ?_, fun enabled unlatched => ?_⟩
  · obtain ⟨enabled, unlatched⟩ := inUse (held.elim .inl fun e => .inr (.inl e))
    refine ⟨_, rfl, ?_, ?_, fun some_ => ?_, fun none_ => ?_, frame _ rfl enabled unlatched⟩
    · rw [headfaultAt_rests tag held closed, delay]
      exact (afterFault_frame _ _ _ _ .heads (by decide)).trans (dropped _)
    · rw [headfaultAt_rests tag held closed]
      exact afterFault_keepsFlag _ _ _ _ _ (setFlag_sets _ _)
    · rw [headfaultAt_rests tag held closed]
      exact afterFault_keepsFlag _ _ _ _ _ (setFlag_keeps _ _ _ (dropBookings_sets h s some_))
    · subst none_
      have live := dropBookings_live h s tallyPrintfail
      rw [if_pos rfl] at live
      rw [headfaultAt_rests none held closed, afterFault_eq, if_neg (by decide)]
      refine Eq.trans ?_ live
      exact congrArg (fun t : TallyUnit => t.live[tallyPrintfail])
        ((setFlag_frame _ _ .tally (by decide)).trans (modifyHead_frame _ _ _ .tally (by decide)))
  · obtain ⟨enabled, unlatched⟩ := inUse (held.elim .inl fun e => .inr (.inl e))
    refine ⟨_, rfl, ?_, ?_, ?_, fun some_ => ?_, frame _ rfl enabled unlatched⟩
    · rw [headfaultAt_latches tag held opened]
      exact (afterFault_frame _ _ _ _ .heads (by decide)).trans (dropped _)
    · rw [headfaultAt_latches tag held opened]
      exact afterFault_keepsFlag _ _ _ _ _ (setFlag_sets _ _)
    · rw [headfaultAt_latches tag held opened]
      exact afterFault_headlatch _ _ _
    · rw [headfaultAt_latches tag held opened]
      exact afterFault_keepsFlag _ _ _ _ _ (setFlag_keeps _ _ _ (dropBookings_sets h s some_))
  · obtain ⟨enabled, unlatched⟩ := inUse (held.elim (fun e => .inr (.inr (.inl e))) fun e => .inr (.inr (.inr e)))
    have latches : ∃ f : Head → Head, headfaultAt h tag s = afterFault h tag true (modifyHead h f s)
        ∧ (f s.heads[h]).state = .latched ∧ (f s.heads[h]).bookings = s.heads[h].bookings ∧ (f s.heads[h]).faultWindow = none
        ∧ (s.heads[h].state = .resting → (f s.heads[h]).restart = none)
        ∧ (s.heads[h].state = .purging → (f s.heads[h]).purge = none ∧ (f s.heads[h]).abort = false) := by
      rcases held with e | e
      · exact ⟨_, headfaultAt_resting tag e, rfl, rfl, rfl, fun _ => rfl, fun other => nomatch e.symm.trans other⟩
      · exact ⟨_, headfaultAt_purging tag e, rfl, rfl, rfl, fun other => (nomatch e.symm.trans other), fun _ => ⟨rfl, rfl⟩⟩
    obtain ⟨f, faults, state, bookings, window, restart, purge⟩ := latches
    have heads : (headfaultAt h tag s).heads = (modifyHead h f s).heads := by
      rw [faults]
      exact afterFault_frame _ _ _ _ .heads (by decide)
    refine ⟨_, rfl, ?_, ?_, ?_, ?_, ?_, fun j other => ?_, ?_, ?_, frame _ rfl enabled unlatched⟩
    · rw [heads, modifyHead_get_self, state]
    · rw [heads, modifyHead_get_self, bookings]
    · rw [heads, modifyHead_get_self, window]
    · rw [heads, modifyHead_get_self]
      exact restart
    · rw [heads, modifyHead_get_self]
      exact purge
    · rw [heads, modifyHead_get, if_neg other]
    · rw [faults]
      exact afterFault_keepsFlag _ _ _ _ _ (setFlag_sets _ _)
    · rw [faults]
      exact afterFault_headlatch _ _ _
  · intro drops drops_eq failed failed_eq kept kept_eq spoiled spoiled_eq
    obtain rfl : failed = withPrintStatus .failed := funext failed_eq
    obtain rfl : drops = faultDrops h s := drops_eq
    obtain rfl : kept = lettersPrinted .failed (faultDrops h s) s.track.letters := kept_eq
    obtain rfl : spoiled = spoils h tag (lettersPrinted .failed (faultDrops h s) s.track.letters) := spoiled_eq
    obtain ⟨f, faults⟩ := headfaultAt_eq tag enabled unlatched
    have changed : changesOnly [.heads, .cond, .ring] (afterDrop h s) (setFlag .headfault (modifyHead h f (afterDrop h s))) :=
      (setFlag_frame _ _).chain ((modifyHead_frame _ _ _).mono rfl) rfl
    have signals : alike (setFlag .headfault (afterDrop h s)) (setFlag .headfault (modifyHead h f (afterDrop h s))) :=
      (alike.ofFrame (modifyHead_frame _ _ _)).setFlag _
    have track := (changed .track (by decide)).trans (afterDrop_track h s)
    have tally := changed .tally (by decide)
    have live := afterDrop_live h s
    have untouched : (setFlag .headfault (afterDrop h s)).tally = (afterDrop h s).tally := setFlag_frame _ _ .tally (by decide)
    rw [faults]
    have after := afterFault_afterTag h tag
      (decide (s.heads[h].state = .resting ∨ s.heads[h].state = .purging ∨ s.heads[h].faultWindow.isSome = true))
      (modifyHead h f (afterDrop h s))
    have ends := afterFault_eq h tag
      (decide (s.heads[h].state = .resting ∨ s.heads[h].state = .purging ∨ s.heads[h].faultWindow.isSome = true))
      (modifyHead h f (afterDrop h s))
    generalize setFlag .headfault (modifyHead h f (afterDrop h s)) = x at *
    have letters : x.track.letters = lettersPrinted .failed (faultDrops h s) s.track.letters := congrArg LetterTrack.letters track
    rw [← letters]
    have lives := takeTag_live h tag x
    have tallied : (afterFault h tag (decide (s.heads[h].state = .resting ∨ s.heads[h].state = .purging
        ∨ s.heads[h].faultWindow.isSome = true)) (modifyHead h f (afterDrop h s))).tally = (takeTag h tag x).tally :=
      after .tally (by decide)
    refine ⟨_, rfl, fun sp => ⟨?_, ?_, ?_⟩, fun clean => ⟨?_, ?_⟩, fun i other => ?_, fun u v w hu hv clean hw => ?_⟩
    · obtain ⟨q, rfl, taken⟩ := takeTag_spoils sp
      rw [after .track (by decide), taken, setFlag_frame _ _ .track (by decide), count_frame _ _ .track (by decide)]
      have keeps : s.track = { x.track with letters := s.track.letters } := by rw [track]
      rw [keeps]
      refine congrArg (fun ls => { x.track with letters := ls }) (List.map_congr_left fun l _ => ?_)
      by_cases own : l.seq = q
      · rw [if_pos own, if_pos (congrArg some own.symm)]
        rfl
      · rw [if_neg own, if_neg fun e => own (Option.some.inj e).symm]
    · rw [tallied, (lives _).1 sp, if_pos rfl, tally, live, if_pos rfl, BitVec.add_assoc, BitVec.ofNat_add]
      rfl
    · rw [ends]
      obtain ⟨q, -, taken⟩ := takeTag_spoils sp
      split
      · exact setFlag_keeps _ _ _ (taken ▸ setFlag_sets _ _)
      · exact taken ▸ setFlag_sets _ _
    · rw [after .track (by decide), takeTag_clean clean, track]
    · rw [tallied, (lives _).2 clean, tally, live, if_pos rfl]
    · rw [tallied]
      by_cases sp : spoils h tag x.track.letters
      · rw [(lives _).1 sp, if_neg other, tally, live, if_neg other]
      · rw [(lives _).2 sp, tally, live, if_neg other]
    · have hu : u = setFlag .headfault (afterDrop h s) := hu
      have signals' : alike u x := hu ▸ signals
      have tag_ : alike v (takeTag h tag x) := by
        by_cases sp : spoils h tag x.track.letters
        · obtain ⟨q, -, taken⟩ := takeTag_spoils sp
          rw [hv sp, taken]
          have marked : alike u (setPrintStatus q .failed x) := signals'.trans (.ofFrame (setPrintStatus_frame _ _ _))
          refine (marked.count ?_).setFlag _
          rw [setPrintStatus_frame _ _ _ .tally (by decide), tally, hu, untouched]
        · rw [clean sp, takeTag_clean sp]
          exact signals'
      rw [hw, ends]
      simp only [decide_eq_true_eq]
      split
      · exact (tag_.setFlag _).signals
      · exact tag_.signals

end Sys2Proof.Machine
end

section
/-! SUPPORT. A millisecond event at the timers of the heads (R13, R106, R108). -/

namespace Sys2Proof.Machine

/-! ## The timers of one head -/

/-- A head after a millisecond event at its fault window. -/
def windowTicked (k : Head) : Head :=
  match k.faultWindow with
  | none => k
  | some t => if t.left ≤ 1 then { k with faultWindow := none } else { k with faultWindow := some (countDown t) }

/-- A head after a millisecond event at its purge timer. -/
def purgeTicked (k : Head) : Head :=
  match k.purge with
  | none => k
  | some t =>
    if t.left ≤ 1 then
      if k.state = .purging then
        { k with purge := none, abort := false, lastPurge := .timeout, state := .latched, faultWindow := none }
      else k
    else { k with purge := some (countDown t) }

/-- A head after a millisecond event at its restart timer, with the window that a rest's end opens. -/
def restartTicked (w : Option Timer) (k : Head) : Head :=
  match k.restart with
  | none => k
  | some t =>
    if t.left ≤ 1 then { k with restart := none, state := .ready, faultWindow := w } else { k with restart := some (countDown t) }

/-- A head after a millisecond event at its timers. -/
def ticked (w : Option Timer) (k : Head) : Head := restartTicked w (purgeTicked (windowTicked k))

section
variable (h j : Fin 4) (s : State)

theorem modifyHead_id : (modifyHead h (fun k => k) s).heads = s.heads := Vector.set_getElem_self h.isLt

theorem windowMillisecond_heads : (windowMillisecond h s).heads = (modifyHead h windowTicked s).heads := by
  rw [modifyHead_heads, windowTicked, windowMillisecond]
  cases s.heads[h].faultWindow with
  | none => exact (modifyHead_id h s).symm
  | some t =>
    dsimp only
    split <;> rfl

theorem purgeMillisecond_heads : (purgeMillisecond h s).heads = (modifyHead h purgeTicked s).heads := by
  have flags : ∀ t : State, (setFlag .headlatch (setFlag .headfault t)).heads = t.heads := fun t =>
    (setFlag_frame _ _ .heads (by decide)).trans (setFlag_frame t _ .heads (by decide))
  rw [modifyHead_heads, purgeTicked, purgeMillisecond]
  cases s.heads[h].purge with
  | none => exact (modifyHead_id h s).symm
  | some t =>
    dsimp only
    split
    · rw [purgeExpiry]
      split
      · exact flags _
      · exact (modifyHead_id h s).symm
    · rfl

theorem restartMillisecond_heads : (restartMillisecond h s).heads = (modifyHead h (restartTicked (openWindow s)) s).heads := by
  rw [modifyHead_heads, restartTicked, restartMillisecond]
  cases runs : s.heads[h].restart with
  | none => exact (modifyHead_id h s).symm
  | some t =>
    dsimp only
    rw [restartExpiry, if_pos (show s.heads[h].restart.isSome = true by rw [runs]; rfl)]
    split <;> rfl

theorem openWindow_congr {s t : State} (store : t.store = s.store) : openWindow t = openWindow s := by
  unfold openWindow faultWindowLength geometryCommitted
  rw [store]

theorem headMillisecond_get :
    (headMillisecond s h).heads[j] = if j = h then ticked (openWindow s) s.heads[j] else s.heads[j] := by
  have window : openWindow (purgeMillisecond h (windowMillisecond h s)) = openWindow s :=
    openWindow_congr ((purgeMillisecond_frame _ _ .store (by decide)).trans (windowMillisecond_frame s h .store (by decide)))
  rw [headMillisecond, restartMillisecond_heads, modifyHead_get, purgeMillisecond_heads, modifyHead_get, windowMillisecond_heads,
    modifyHead_get, window]
  by_cases at_ : j = h
  · rw [if_pos at_, if_pos at_, if_pos at_, if_pos at_]
    rfl
  · rw [if_neg at_, if_neg at_, if_neg at_, if_neg at_]

theorem millisecondEvent_get : (millisecondEvent s).heads[j] = ticked (openWindow s) s.heads[j] :=
  foldl_finRange (fun s j => s.heads[j]) (fun _ => ticked (openWindow s)) (I := fun t => openWindow t = openWindow s)
    (fun t h e => (openWindow_congr (headMillisecond_frame t h .store (by decide))).trans e)
    (fun t h j e => by rw [headMillisecond_get, e]) rfl j

end

/-! ## What the invariant says of the timers -/

section
variable {k : Head} (fits : headInvariant k) {t : Timer} (w : Option Timer)
include fits

theorem ticked_rests (rests : k.restart = some t) : ticked w k = restartTicked w k := by
  obtain ⟨restart, purge, window, -⟩ := fits
  have state : k.state = .resting := restart.mp (by rw [rests]; rfl)
  have noWindow : k.faultWindow = none := by
    cases e : k.faultWindow with
    | none => rfl
    | some t => rcases window (by rw [e]; rfl) with e | e | e <;> exact nomatch state.symm.trans e
  have noPurge : k.purge = none := by
    cases e : k.purge with
    | none => rfl
    | some t => exact nomatch state.symm.trans (purge.mp (by rw [e]; rfl))
  have windowed : windowTicked k = k := by rw [windowTicked, noWindow]
  have purged : purgeTicked k = k := by rw [purgeTicked, noPurge]
  rw [ticked, windowed, purged]

theorem ticked_notResting (state : k.state ≠ .resting) : ticked w k = purgeTicked (windowTicked k) := by
  have none_ : k.restart = none := by
    cases e : k.restart with
    | none => rfl
    | some t => exact absurd (fits.1.mp (by rw [e]; rfl)) state
  have window : (windowTicked k).restart = k.restart := by
    unfold windowTicked
    split
    · rfl
    · split <;> rfl
  have purge : (purgeTicked (windowTicked k)).restart = none := by
    unfold purgeTicked
    split
    · exact window.trans none_
    split
    · split
      · exact window.trans none_
      · exact window.trans none_
    · exact window.trans none_
  rw [ticked, restartTicked, purge]

end

/-- The fault window's count changes nothing else of a head. -/
theorem windowTicked_eq (k : Head) : ∃ v, windowTicked k = { k with faultWindow := v } := by
  unfold windowTicked
  split
  · exact ⟨k.faultWindow, rfl⟩
  split
  · exact ⟨_, rfl⟩
  · exact ⟨_, rfl⟩

theorem windowTicked_state (k : Head) : (windowTicked k).state = k.state := by
  obtain ⟨v, e⟩ := windowTicked_eq k
  rw [e]

theorem windowTicked_purge (k : Head) : (windowTicked k).purge = k.purge := by
  obtain ⟨v, e⟩ := windowTicked_eq k
  rw [e]

/-! ## The flags of a millisecond event -/

/-- A head whose purge timer expires at the next millisecond event. -/
def purgeEnds (k : Head) : Bool := k.purge.any fun p => p.left ≤ 1

/-- A millisecond event at one head raises HEADFAULT and HEADLATCH where its purge timer expires, and nothing else. -/
theorem headMillisecond_alike {w s : State} (same : alike w s) (h : Fin 4) (fits : headInvariant s.heads[h]) :
    alike (if purgeEnds s.heads[h] then setFlag .headlatch (setFlag .headfault w) else w) (headMillisecond s h) := by
  have window : alike w (windowMillisecond h s) := same.trans (.ofFrame (windowMillisecond_frame s h))
  have head : (windowMillisecond h s).heads[h] = windowTicked s.heads[h] := by
    rw [windowMillisecond_heads, modifyHead_get_self]
  have purge : alike (if purgeEnds s.heads[h] then setFlag .headlatch (setFlag .headfault w) else w)
      (purgeMillisecond h (windowMillisecond h s)) := by
    rw [purgeMillisecond, head, windowTicked_purge, purgeEnds]
    cases runs : s.heads[h].purge with
    | none => exact window
    | some t =>
      simp only [Option.any_some, decide_eq_true_eq]
      split
      · have purges : s.heads[h].state = .purging := fits.2.1.mp (by rw [runs]; rfl)
        rw [purgeExpiry, if_pos (by rw [head, windowTicked_state, purges])]
        exact ((window.trans (.ofFrame (modifyHead_frame _ _ _))).setFlag _).setFlag _
      · exact window.trans (.ofFrame (modifyHead_frame _ _ _))
  exact purge.trans (.ofFrame (restartMillisecond_frame _ h))

theorem headMillisecond_other (s : State) {h j : Fin 4} (other : j ≠ h) : (headMillisecond s h).heads[j] = s.heads[j] := by
  rw [headMillisecond_get, if_neg other]

/-- A purge timer that expires sets its two flags, whatever the other heads do. -/
theorem millisecondHeads_flags {h : Fin 4} {hs : List (Fin 4)} (mem : h ∈ hs) : ∀ t : State, headInvariant t.heads[h] →
    purgeEnds t.heads[h] = true →
    flagSet (hs.foldl headMillisecond t) .headfault = true ∧ flagSet (hs.foldl headMillisecond t) .headlatch = true := by
  induction hs with
  | nil => exact absurd mem List.not_mem_nil
  | cons j hs ih =>
    intro t fits ends
    by_cases first : h = j
    · subst first
      have raised := headMillisecond_alike (alike.refl t) h fits
      rw [if_pos ends] at raised
      have later := Signals.foldl headMillisecond_signals hs (headMillisecond t h)
      refine ⟨later.flags ?_, later.flags ?_⟩
      · exact (raised.flagSet .headfault).trans (setFlag_keeps _ _ _ (setFlag_sets _ _))
      · exact (raised.flagSet .headlatch).trans (setFlag_sets _ _)
    · have stands := headMillisecond_other t first
      exact ih ((List.mem_cons.mp mem).resolve_left first) _ (stands ▸ fits) (stands ▸ ends)

/-! ## TimersCountMilliseconds -/

/-- Settles O3. -/
theorem timersCountMilliseconds : Obligations.TimersCountMilliseconds := by
  intro s h t fits
  have head := millisecondEvent_get h s
  generalize k_eq : s.heads[h] = k at fits head ⊢
  obtain ⟨restart, purge, window, abort, -⟩ := id fits
  have notResting : k.purge.isSome = true ∨ k.faultWindow.isSome = true → k.state ≠ .resting := by
    rintro (runs | runs) e
    · exact nomatch e.symm.trans (purge.mp runs)
    · rcases window runs with e' | e' | e' <;> exact nomatch e.symm.trans e'
  refine ⟨fun runs more => ?_, fun runs last => ?_, fun runs more => ?_, fun runs last => ?_, fun runs more others => ?_,
    fun runs last => ?_, fun d length => ?_, fun all w raised => ?_⟩
  · rw [head, ticked_rests fits _ runs, restartTicked, runs]
    exact if_neg (Nat.not_le.mpr more)
  · rw [head, ticked_rests fits _ runs, restartTicked, runs]
    exact if_pos last
  · have purging := purge.mp (by rw [runs]; rfl)
    rw [head, ticked_notResting fits _ (notResting (.inl (by rw [runs]; rfl))), purgeTicked, windowTicked_purge, runs]
    dsimp only
    rw [if_neg (Nat.not_le.mpr more)]
    exact ⟨(windowTicked_state k).trans purging, rfl⟩
  · have purging := purge.mp (by rw [runs]; rfl)
    refine ⟨?_, ?_⟩
    · obtain ⟨v, e⟩ := windowTicked_eq k
      rw [head, ticked_notResting fits _ (notResting (.inl (by rw [runs]; rfl))), purgeTicked, windowTicked_purge, runs]
      dsimp only
      rw [if_pos last, if_pos (by rw [windowTicked_state, purging]), e]
    · exact millisecondHeads_flags (List.mem_finRange h) s (by rwa [k_eq]) (by rw [k_eq, purgeEnds, runs]; exact decide_eq_true last)
  · have ticks : windowTicked k = { k with faultWindow := some (countDown t) } := by
      rw [windowTicked, runs]
      exact if_neg (Nat.not_le.mpr more)
    rw [head, ticked_notResting fits _ (notResting (.inr (by rw [runs]; rfl))), ticks, purgeTicked]
    cases e : k.purge with
    | none => rfl
    | some p =>
      dsimp only
      rw [if_neg (Nat.not_le.mpr (others p e))]
      rfl
  · have ticks : windowTicked k = { k with faultWindow := none } := by
      rw [windowTicked, runs]
      exact if_pos last
    rw [head, ticked_notResting fits _ (notResting (.inr (by rw [runs]; rfl))), ticks, purgeTicked]
    cases e : k.purge with
    | none => rfl
    | some p =>
      dsimp only
      split
      · split <;> rfl
      · rfl
  · rw [length]
    rfl
  · have folded := alike.foldHeads (f := headMillisecond) (s := s)
      (g := fun j w => if purgeEnds s.heads[j] then setFlag .headlatch (setFlag .headfault w) else w)
      (fun w t j same _ stands => by
        have one := headMillisecond_alike same j (by rw [stands]; exact all j)
        rwa [stands] at one)
      (fun t h j other => headMillisecond_other t other) (fun t h => headMillisecond_frame t h .store (by decide))
      (List.nodup_finRange 4) s s (.refl s) rfl fun _ _ => rfl
    rw [raised, List.foldl_filter]
    exact folded.signals

end Sys2Proof.Machine
end

section
/-! SUPPORT. Lamps and sweeps: the condition and its orders, a sweep by report and by ask (R136 to R138, R143, R144). -/

namespace Sys2Proof.Machine

/-! ## Lamps (R136 to R138) -/

theorem lampCondition_full_iff (capacity warn c : Nat) : lampCondition capacity warn c = .full ↔ 0 < capacity ∧ capacity ≤ c := by
  unfold lampCondition
  split
  · next full => exact iff_of_true rfl full
  · next other =>
    refine iff_of_false ?_ other
    split <;> exact nofun

theorem lampCondition_near_iff (capacity warn c : Nat) :
    lampCondition capacity warn c = .near
      ↔ lampCondition capacity warn c ≠ .full ∧ 0 < capacity ∧ 0 < warn ∧ warn ≤ c := by
  unfold lampCondition
  split
  · exact iff_of_false nofun fun h => h.1 rfl
  split
  · next near => exact iff_of_true rfl ⟨nofun, near⟩
  · next other => exact iff_of_false nofun fun h => other h.2

theorem lampOrder_congr {s t : State} (store : t.store = s.store) (n : Fin 8) (c : LampCondition) :
    lampOrder t n c = lampOrder s n c := by
  rw [lampOrder, lampOrder, lampPatternFor.eq_def, lampPatternFor.eq_def]
  unfold stackerInForce
  rw [store]

theorem stackerStation_eq (ts : Tables) (n : Fin 8) : stackerStation ts n = officeStation ts (if n.val < 4 then 6 else 7) := by
  rw [stackerStation, stackerPath]
  by_cases straight : n.val < 4
  · rw [if_pos straight, if_pos straight]
  · rw [if_neg straight, if_neg straight]

/-- A recomputation that finds another condition. -/
theorem recomputeLamp_changes {s : State} {n : Fin 8} (other : lampConditionOf s n ≠ s.stackers[n].lamp) :
    recomputeLamp n s =
      (fun u => if lampConditionOf s n = .full then enterFull n u else u)
        (issueOrder (.lamp n) (lampOrder s n (lampConditionOf s n)) (modifyStacker n (fun k => { k with lamp := lampConditionOf s n }) s)) := by
  have get : (modifyStacker n (fun k => { k with lamp := lampConditionOf s n }) s).stackers[n].lamp = lampConditionOf s n := by
    rw [modifyStacker_get, if_pos rfl]
  have order := lampOrder_congr (modifyStacker_frame s n (fun k => { k with lamp := lampConditionOf s n }) .store (by decide)) n
    (lampConditionOf s n)
  rw [recomputeLamp]
  dsimp only
  rw [if_neg other, issueLamp, get, order]

/-- A reissue of the lamps that show a pattern (R138). -/
theorem reissueLamps_eq (s : State) : reissueLamps s
    = ((List.finRange 8).filter fun n => (lampPatternFor s n s.stackers[n].lamp).isSome).foldl
        (fun u n => issueOrder (.lamp n) (lampOrder s n s.stackers[n].lamp) u) s := by
  have step : ∀ t : State, t.store = s.store → t.stackers = s.stackers → ∀ n,
      (if (lampPatternFor t n t.stackers[n].lamp).isSome then issueLamp n t else t)
        = if (lampPatternFor s n s.stackers[n].lamp).isSome then issueOrder (.lamp n) (lampOrder s n s.stackers[n].lamp) t else t := by
    intro t store stackers n
    have pattern : ∀ c, lampPatternFor t n c = lampPatternFor s n c := fun c => by
      rw [lampPatternFor.eq_def, lampPatternFor.eq_def]
      unfold stackerInForce
      rw [store]
    rw [issueLamp, stackers, pattern, lampOrder_congr store]
  have folds : ∀ (ns : List (Fin 8)) (t : State), t.store = s.store → t.stackers = s.stackers →
      ns.foldl (fun t n => if (lampPatternFor t n t.stackers[n].lamp).isSome then issueLamp n t else t) t
        = ns.foldl (fun t n =>
            if (lampPatternFor s n s.stackers[n].lamp).isSome then issueOrder (.lamp n) (lampOrder s n s.stackers[n].lamp) t else t) t := by
    intro ns
    induction ns with
    | nil =>
      intro t _ _
      rw [List.foldl_nil, List.foldl_nil]
    | cons n ns ih =>
      intro t store stackers
      rw [List.foldl_cons, List.foldl_cons, step t store stackers n]
      have frame : changesOnly [.ring] t
          (if (lampPatternFor s n s.stackers[n].lamp).isSome then issueOrder (.lamp n) (lampOrder s n s.stackers[n].lamp) t else t) :=
        changesOnly.iteSame (issueOrder_frame _ _ _) (changesOnly.refl _ _)
      exact ih _ ((frame .store (by decide)).trans store) ((frame .stackers (by decide)).trans stackers)
  rw [reissueLamps, List.foldl_filter]
  exact folds _ s rfl rfl

/-- Settles O39. -/
theorem lampsFollowCounts : Obligations.LampsFollowCounts := by
  refine ⟨fun n s c condition => ?_, fun s pattern patterns => ?_⟩
  · subst condition
    refine ⟨rfl, rfl, lampCondition_full_iff _ _ _, lampCondition_near_iff _ _ _, fun held => if_pos held, fun other u issued => ?_⟩
    rw [recomputeLamp_changes other]
    have same : u = issueOrder (.lamp n) (lampOrder s n (lampConditionOf s n)) (modifyStacker n (fun k => { k with lamp := lampConditionOf s n }) s) :=
      issued
    rw [← same]
    dsimp only
    rw [enterFull, isResidue]
    simp only [Bool.or_eq_true, decide_eq_true_eq]
  · have same : ∀ n c, lampPatternFor s n c = pattern n c := by
      intro n c
      obtain ⟨normal, near, full⟩ := patterns n
      cases c with
      | normal => exact normal.symm
      | near => exact near.symm
      | full => exact full.symm
    refine ⟨fun n c => ?_, rfl, ?_⟩
    · rw [lampOrder, stackerStation_eq, same] <;> rfl
    · rw [reissueLamps_eq]
      simp only [same]

/-! ## Sweeps (R143, R144) -/

theorem sweep_get (n j : Fin 8) (s : State) : ∃ c, (sweep n s).stackers[j]
    = if j = n then { s.stackers[j] with arrived := 0, lamp := c } else s.stackers[j] := by
  rw [sweep, recomputeLamp_stackers, modifyStacker_get]
  by_cases at_ : j = n
  · rw [if_pos at_, if_pos at_]
    simp only [if_pos at_]
    exact ⟨_, rfl⟩
  · rw [if_neg at_]
    simp only [if_neg at_]
    exact ⟨.normal, trivial⟩

theorem sweeps_get {ns : List (Fin 8)} (nodup : ns.Nodup) (s : State) (j : Fin 8) :
    (ns.foldl (fun s n => sweep n s) s).stackers[j].inFlight = s.stackers[j].inFlight
    ∧ (ns.foldl (fun s n => sweep n s) s).stackers[j].arrived = if j ∈ ns then 0 else s.stackers[j].arrived := by
  refine ⟨?_, ?_⟩
  · have all := foldl_at (f := fun s n => sweep n s) (fun s j => s.stackers[j].inFlight) (fun _ k => k) (I := fun _ => True)
      (fun _ _ _ => trivial) (fun s n j _ => by
        obtain ⟨c, e⟩ := sweep_get n j s
        simp only [e]
        split <;> rfl) nodup (s := s) trivial j
    exact all.trans (ite_self _)
  · exact foldl_at (f := fun s n => sweep n s) (fun s j => s.stackers[j].arrived) (fun _ _ => 0) (I := fun _ => True)
      (fun _ _ _ => trivial) (fun s n j _ => by
        obtain ⟨c, e⟩ := sweep_get n j s
        simp only [e]
        split <;> rfl) nodup (s := s) trivial j

theorem stackerData_eq (low : Nat → Nat → List Byte) (bytes : ∀ n w, low n w = (List.range n).map fun i => BitVec.ofNat 8 (w / 256 ^ i))
    (u : State) (removed : Nat) (n : Fin 8) :
    stackerData u removed n
        = low 1 u.stackers[n].inFlight ++ low 4 u.stackers[n].arrived.toNat
          ++ low 5 (u.stackers[n].inFlight + u.stackers[n].arrived.toNat) ++ low 2 (stackerInForce u n).capacity
          ++ [BitVec.ofNat 8 (([.normal, .near, .full] : List LampCondition).idxOf u.stackers[n].lamp),
            if ∃ w ∈ u.ring.waiting, w.place = .lamp n then 1 else 0]
          ++ low 4 removed := by
  have natBytes_low : ∀ k w, natBytes k w = low k w := fun k w => (natBytes_eq_map k w).trans (bytes k w).symm
  have one : low 1 u.stackers[n].inFlight = [byteOf u.stackers[n].inFlight] := by rw [bytes]; simp [byteOf]
  have code : lampCode u.stackers[n].lamp
      = BitVec.ofNat 8 (([.normal, .near, .full] : List LampCondition).idxOf u.stackers[n].lamp) := by
    cases u.stackers[n].lamp <;> rfl
  have waits : indicator (lampWaiting u n) = if ∃ w ∈ u.ring.waiting, w.place = .lamp n then 1 else 0 := by
    simp only [indicator, lampWaiting, List.any_eq_true, decide_eq_true_eq]
  rw [stackerData, natBytes_low, natBytes_low, natBytes_low, natBytes_low, code, waits, one]
  rfl

/-- Settles O38. -/
theorem sweepsEmptyStackers : Obligations.SweepsEmptyStackers := by
  refine ⟨fun dest src s addressed => ⟨fun n beyond => ?_, fun b n at_ => ?_, fun set atOnce => ?_⟩, stackerData_eq⟩
  · exact congrArg Host.Outcome.next ((deliver_taken addressed (by simp [messagePayload, maxPayload])).trans
      (dif_neg (Nat.not_lt.mpr beyond)))
  · have number : (⟨b.toNat, at_ ▸ n.isLt⟩ : Fin 8) = n := Fin.ext at_
    refine ⟨sweep n s, congrArg Host.Outcome.next ((deliver_taken addressed (by simp [messagePayload, maxPayload])).trans
      ((dif_pos (at_ ▸ n.isLt)).trans (by rw [number]))), rfl, ?_⟩
    obtain ⟨c, e⟩ := sweep_get n n s
    rw [committed, e, if_pos rfl]
    rfl
  · have length : ∀ t, (serve 0x14 [set] t).data.length = 144 := stackerSweep_length set
    have three : (answerParts (serve 0x14 [set] s).data).length = 3 := by
      rw [answerParts, if_neg (by rw [length]; decide), if_neg (by rw [length]; decide)]
      rfl
    refine ⟨_, _, congrArg Host.Outcome.next (deliver_ask_reserved atOnce (by simp [maxArgs]) (by decide) three rfl), rfl, rfl,
      stackerSweep_length set (setReserved 3 s), fun n => ?_⟩
    have swept := sweeps_get ((List.nodup_finRange 8).filter fun n => set.getLsbD n.val) (setReserved 3 s) n
    refine ⟨swept.1, swept.2.trans ?_⟩
    simp only [List.mem_filter, List.mem_finRange, true_and]
    rfl

end Sys2Proof.Machine
end

section
/-! SUPPORT. The retirement of a letter: its record, its booking, the subject, a completed drain (R19, R26, R58, R110). -/

namespace Sys2Proof.Machine

/-! ## The booking of a letter that has left (R19, R110) -/

/-- A head in PURGE-WAIT whose list a letter's retirement empties. -/
def proceedsWithout (q : Seq) (k : Head) : Bool :=
  decide (k.state = .purgeWait ∧ k.bookings ≠ [] ∧ (k.bookings.filter fun b => b.tag ≠ q) = [])

theorem filter_tag_of_none {q : Seq} {bs : List Booking} (none_ : ¬ (bs.any fun b => b.tag = q) = true) :
    (bs.filter fun b => b.tag ≠ q) = bs := by
  rw [List.filter_eq_self]
  intro b mem
  exact decide_eq_true fun same => none_ (List.any_eq_true.mpr ⟨b, mem, decide_eq_true same⟩)

theorem proceedsWithout_iff (q : Seq) (k : Head) : proceedsWithout q k = true
    ↔ (k.bookings.any fun b => b.tag = q) = true ∧ k.state = .purgeWait ∧ (k.bookings.filter fun b => b.tag ≠ q) = [] := by
  rw [proceedsWithout, decide_eq_true_iff]
  by_cases held : (k.bookings.any fun b => b.tag = q) = true
  · have some_ : k.bookings ≠ [] := fun e => by simp [e] at held
    exact ⟨fun ⟨wait, _, empty⟩ => ⟨held, wait, empty⟩, fun ⟨_, wait, empty⟩ => ⟨wait, some_, empty⟩⟩
  · rw [filter_tag_of_none held]
    exact ⟨fun ⟨_, some_, empty⟩ => absurd empty some_, fun ⟨yes, _⟩ => absurd yes held⟩

theorem headWithout_eq (q : Seq) (d : Nat) (k : Head) : headWithout q d k
    = if proceedsWithout q k then { k with bookings := [], purge := some (startTimer d), state := .purging }
      else { k with bookings := k.bookings.filter fun b => b.tag ≠ q } := by
  unfold headWithout proceeding
  by_cases held : (k.bookings.any fun b => b.tag = q) = true
  · rw [if_pos held]
    by_cases proceeds : k.state = .purgeWait ∧ (k.bookings.filter fun b => b.tag ≠ q) = []
    · rw [if_pos proceeds, if_pos ((proceedsWithout_iff q k).mpr ⟨held, proceeds⟩)]
      dsimp only
      rw [proceeds.2]
    · rw [if_neg proceeds, if_neg fun h => proceeds ((proceedsWithout_iff q k).mp h).2]
  · rw [if_neg held, if_neg fun h => held ((proceedsWithout_iff q k).mp h).1, filter_tag_of_none held]

/-- The purge orders that a retirement issues, in head order. -/
def purgesWithout (q : Seq) (s w : State) : State :=
  ((List.finRange 4).filter fun h => proceedsWithout q s.heads[h]).foldl
    (fun w h => issueOrder (.purge h) ⟨headStation s.store.tables h, .purge h⟩ w) w

theorem removeBookingAt_alike {q : Seq} {s w t : State} {h : Fin 4} (same : alike w t) (store : t.store = s.store)
    (stands : t.heads[h] = s.heads[h]) :
    alike (if proceedsWithout q s.heads[h] then issueOrder (.purge h) ⟨headStation s.store.tables h, .purge h⟩ w else w)
      (removeBookingAt q h t) := by
  have shortened : ∀ f, alike w (modifyHead h f t) := fun f => same.trans (.ofFrame (modifyHead_frame t h f))
  have get := modifyHead_get_self h (fun k : Head => { k with bookings := k.bookings.filter fun b => b.tag ≠ q }) t
  rw [removeBookingAt]
  by_cases held : (t.heads[h].bookings.any fun b => b.tag = q) = true
  · rw [if_pos held, proceedIfEmpty, get, stands]
    by_cases proceeds : s.heads[h].state = .purgeWait ∧ (s.heads[h].bookings.filter fun b => b.tag ≠ q) = []
    · rw [if_pos ((proceedsWithout_iff q _).mpr ⟨by rwa [stands] at held, proceeds⟩)]
      rw [if_pos proceeds, startPurge_eq, modifyHead_frame t h _ .store (by decide), store]
      exact ((shortened _).issueOrder _ _).trans (.ofFrame (modifyHead_frame _ _ _))
    · rw [if_neg fun h => proceeds ((proceedsWithout_iff q _).mp h).2, if_neg proceeds]
      exact shortened _
  · rw [if_neg held, if_neg fun h => held (by rw [stands]; exact ((proceedsWithout_iff q _).mp h).1)]
    exact same

theorem removeBooking_alike {q : Seq} {s w t : State} (same : alike w t) (store : t.store = s.store) (heads : t.heads = s.heads) :
    alike (purgesWithout q s w) (removeBooking q t) := by
  rw [purgesWithout, List.foldl_filter]
  exact alike.foldHeads (f := fun s h => removeBookingAt q h s)
    (g := fun h w => if proceedsWithout q s.heads[h] then issueOrder (.purge h) ⟨headStation s.store.tables h, .purge h⟩ w else w)
    (fun w t j => removeBookingAt_alike) (fun t h j other => by rw [removeBookingAt_get, if_neg other])
    (fun t h => removeBookingAt_frame t q h .store (by decide)) (List.nodup_finRange 4) w t same store
    (fun j _ => by rw [heads])

/-! ## The subject of a letter that has left (R58) and a completed drain (R26) -/

theorem forgetSubject_eval (q : Seq) (s : State) :
    (forgetSubject q s).eval = { s.eval with subject := if s.eval.subject = some q then none else s.eval.subject } := by
  unfold forgetSubject
  split
  · next own => rw [State.withEval_eval]
  · rfl

theorem drainIfEmpty_drained {s : State} (mode : s.track.mode = .draining) (empty : s.track.letters = []) :
    (drainIfEmpty s).track = { s.track with letters := [], mode := .stopped, lastTrailing := none }
    ∧ (drainIfEmpty s).routing = { s.routing with plan := [] } := by
  rw [drainIfEmpty, if_pos ⟨mode, empty⟩, ← empty]
  exact ⟨rfl, rfl⟩

theorem drainIfEmpty_stands {s : State} (stands : s.track.mode ≠ .draining ∨ s.track.letters ≠ []) : drainIfEmpty s = s :=
  if_neg fun h => stands.elim (fun n => n h.1) fun n => n h.2

theorem drainIfEmpty_letters (s : State) : (drainIfEmpty s).track.letters = s.track.letters := by
  unfold drainIfEmpty
  split <;> rfl

/-! ## The whole retirement (R19) -/

/-- A letter's record gone, its cause counted, and its stacker's share. -/
def retirementShares (l : Letter) (cause : Retirement) (s : State) : State :=
  stackerShare l cause (count (tallyOfRetirement cause) (removeLetter l.seq s))

theorem retire_eq (l : Letter) (cause : Retirement) (s : State) :
    retire l cause s = drainIfEmpty (forgetSubject l.seq (removeBooking l.seq (retirementShares l cause s))) := rfl

theorem retirementShares_frame (l : Letter) (cause : Retirement) (s : State) :
    changesOnly [.track, .stackers, .tally, .cond, .ring] s (retirementShares l cause s) :=
  (stackerShare_frame _ l cause).chain ((count_frame _ _).chain ((removeLetter_frame s l.seq).mono rfl) rfl) rfl

theorem retirementShares_track (l : Letter) (cause : Retirement) (s : State) :
    (retirementShares l cause s).track = { s.track with letters := s.track.letters.filter fun r => r.seq ≠ l.seq } :=
  (stackerShare_frame _ l cause .track (by decide)).trans (count_frame _ _ .track (by decide))

/-- What a retirement leaves of the stacker unit's share. -/
theorem retire_afterShares (l : Letter) (cause : Retirement) (s : State) :
    changesOnly [.track, .eval, .routing, .heads, .ring] (retirementShares l cause s) (retire l cause s) := by
  rw [retire_eq]
  exact (drainIfEmpty_frame _).chain ((forgetSubject_frame _ _).chain ((removeBooking_frame _ _).mono rfl) rfl) rfl

/-- The retirement before a drain can complete. -/
def retirementUndrained (l : Letter) (cause : Retirement) (s : State) : State :=
  forgetSubject l.seq (removeBooking l.seq (retirementShares l cause s))

theorem retirementUndrained_frame (l : Letter) (cause : Retirement) (s : State) :
    changesOnly [.eval, .heads, .ring] (retirementShares l cause s) (retirementUndrained l cause s) :=
  (forgetSubject_frame _ _).chain ((removeBooking_frame _ _).mono rfl) rfl

theorem restOfRetirement_retire {l : Letter} {cause : Retirement} {s u : State} (same : alike u (retirementShares l cause s)) :
    restOfRetirement l s u (retire l cause s) := by
  have shares := retirementShares_frame l cause s
  have undrained := retirementUndrained_frame l cause s
  have drains := drainIfEmpty_frame (retirementUndrained l cause s)
  have forgets := forgetSubject_frame (removeBooking l.seq (retirementShares l cause s)) l.seq
  have track : (retirementUndrained l cause s).track = { s.track with letters := s.track.letters.filter fun r => r.seq ≠ l.seq } :=
    (undrained .track (by decide)).trans (retirementShares_track l cause s)
  have routing : (retirementUndrained l cause s).routing = s.routing :=
    (undrained .routing (by decide)).trans (shares .routing (by decide))
  have removedEval : (removeBooking l.seq (retirementShares l cause s)).eval = s.eval :=
    (removeBooking_frame _ _ .eval (by decide)).trans (shares .eval (by decide))
  have eval : (retirementUndrained l cause s).eval
      = { s.eval with subject := if s.eval.subject = some l.seq then none else s.eval.subject } := by
    rw [retirementUndrained, forgetSubject_eval, removedEval]
  have heads : (retirementUndrained l cause s).heads = (removeBooking l.seq (retirementShares l cause s)).heads :=
    forgets .heads (by decide)
  have signals : alike (purgesWithout l.seq s u) (retirementUndrained l cause s) :=
    (removeBooking_alike same (shares .store (by decide)) (shares .heads (by decide))).trans (.ofFrame forgets)
  have length : purgeTimeoutLength (retirementShares l cause s) = purgeTimeoutLength s :=
    purgeTimeoutLength_congr (shares .store (by decide))
  have cond : (retirementUndrained l cause s).cond = u.cond := (undrained .cond (by decide)).trans same.1
  have retires : retire l cause s = drainIfEmpty (retirementUndrained l cause s) := retire_eq l cause s
  have get : ∀ h : Fin 4, (retirementUndrained l cause s).heads[h] = headWithout l.seq (purgeTimeoutLength s) s.heads[h] := by
    intro h
    rw [heads, removeBooking_get, length, shares .heads (by decide)]
  rw [retires]
  generalize retirementUndrained l cause s = z at *
  have letters : (drainIfEmpty z).track.letters = z.track.letters := drainIfEmpty_letters z
  refine ⟨?_, (drains .eval (by decide)).trans eval, fun mode empty => ?_, fun stands => ?_, (drains .cond (by decide)).trans cond,
    fun d left empties length_eq left_eq empties_eq => ⟨fun h => ?_, ?_⟩⟩
  · rw [letters, track]
  · obtain ⟨trackDrained, routingDrained⟩ := drainIfEmpty_drained (s := z) (by rw [track]; exact mode) (by rw [← letters]; exact empty)
    exact ⟨by rw [trackDrained, track], by rw [routingDrained, routing]⟩
  · rw [letters] at stands ⊢
    have same := drainIfEmpty_stands (s := z) (stands.imp (fun n => by rw [track]; exact n) id)
    exact ⟨by rw [same, track], by rw [same, routing]⟩
  · rw [drains .heads (by decide), get, headWithout_eq, empties_eq, left_eq, length_eq]
    rfl
  · have orders : empties = fun h => proceedsWithout l.seq s.heads[h] := funext fun h => by
      rw [empties_eq, left_eq]
      rfl
    rw [drains .ring (by decide), orders]
    exact signals.2.1

end Sys2Proof.Machine
end

section
/-! SUPPORT. Arrivals, and letters lost: the counts and the stacker's share of a retirement (R130, R137, R139, R141). -/

namespace Sys2Proof.Machine

/-! ## The lamp of a stacker after its counts change (R137) -/

theorem lampConditionOf_congr {s t : State} {n : Fin 8} (store : t.store = s.store)
    (inFlight : t.stackers[n].inFlight = s.stackers[n].inFlight) (arrived : t.stackers[n].arrived = s.stackers[n].arrived) :
    lampConditionOf t n = lampConditionOf s n := by
  unfold lampConditionOf stackerInForce committed committedOf
  rw [store, inFlight, arrived]

/-- After a recomputation the lamp shows the condition. -/
theorem recomputeLamp_shows (s : State) (n : Fin 8) :
    (recomputeLamp n s).stackers[n] = { s.stackers[n] with lamp := lampConditionOf (recomputeLamp n s) n } := by
  have get := recomputeLamp_stackers s n n
  rw [if_pos rfl] at get
  have same : lampConditionOf (recomputeLamp n s) n = lampConditionOf s n :=
    lampConditionOf_congr (recomputeLamp_frame s n .store (by decide)) (by rw [get]) (by rw [get])
  rw [get, same]

theorem recomputeLamp_stackers_congr {s t : State} (store : t.store = s.store) (stackers : t.stackers = s.stackers) (n : Fin 8) :
    (recomputeLamp n t).stackers = (recomputeLamp n s).stackers := by
  refine Vector.ext fun i hi => ?_
  have each : ∀ j : Fin 8, (recomputeLamp n t).stackers[j] = (recomputeLamp n s).stackers[j] := by
    intro j
    rw [recomputeLamp_stackers, recomputeLamp_stackers, stackers,
      lampConditionOf_congr store (by rw [stackers]) (by rw [stackers])]
  exact each ⟨i, hi⟩

section
variable {l : Letter} {d : Disposition} (s : State)

/-- A stacker without a letter that has left for a cause. -/
def stackerWithout (cause : Retirement) (k : Stacker) : Stacker :=
  { k with inFlight := k.inFlight - 1, arrived := if cause = .delivered then satInc32 k.arrived else k.arrived }

/-- The state of a retirement's shares before the lamp is recomputed. -/
def retirementCounts (l : Letter) (d : Disposition) (cause : Retirement) (s : State) : State :=
  let t := retireFrom d.stacker cause (count (tallyOfRetirement cause) (removeLetter l.seq s))
  match cause with
  | .delivered => count (tallyOfArrival d.stacker) t
  | .lost => setFlag .lost t
  | .abandoned => t

theorem retirementShares_of_disposition (given : l.disposition = some d) {cause : Retirement} (kept : cause ≠ .abandoned) :
    retirementShares l cause s = recomputeLamp d.stacker (retirementCounts l d cause s) := by
  rw [retirementShares, stackerShare, given]
  cases cause with
  | delivered => rfl
  | lost => rfl
  | abandoned => exact absurd rfl kept

theorem retirementCounts_stackers (cause : Retirement) :
    (retirementCounts l d cause s).stackers
      = s.stackers.set d.stacker.val (stackerWithout cause s.stackers[d.stacker]) d.stacker.isLt := by
  have start : (count (tallyOfRetirement cause) (removeLetter l.seq s)).stackers = s.stackers :=
    (count_frame _ _ .stackers (by decide)).trans (removeLetter_frame s _ .stackers (by decide))
  have left : (retireFrom d.stacker cause (count (tallyOfRetirement cause) (removeLetter l.seq s))).stackers
      = s.stackers.set d.stacker.val (stackerWithout cause s.stackers[d.stacker]) d.stacker.isLt := by
    rw [← start]
    rfl
  cases cause with
  | delivered => exact (count_frame _ _ .stackers (by decide)).trans left
  | lost => exact (setFlag_frame _ _ .stackers (by decide)).trans left
  | abandoned => exact left

theorem retirementCounts_store (cause : Retirement) : (retirementCounts l d cause s).store = s.store := by
  have left : (retireFrom d.stacker cause (count (tallyOfRetirement cause) (removeLetter l.seq s))).store = s.store :=
    (retireFrom_frame _ _ _ .store (by decide)).trans
      ((count_frame _ _ .store (by decide)).trans (removeLetter_frame s _ .store (by decide)))
  cases cause with
  | delivered => exact (count_frame _ _ .store (by decide)).trans left
  | lost => exact (setFlag_frame _ _ .store (by decide)).trans left
  | abandoned => exact left

theorem retire_stackers (given : l.disposition = some d) {cause : Retirement} (kept : cause ≠ .abandoned) :
    (retire l cause s).stackers = (recomputeLamp d.stacker (retirementCounts l d cause s)).stackers := by
  rw [retire_afterShares l cause s .stackers (by decide), retirementShares_of_disposition s given kept]

theorem retire_stackers_get (given : l.disposition = some d) {cause : Retirement} (kept : cause ≠ .abandoned) (n : Fin 8) :
    (retire l cause s).stackers[n] = if n = d.stacker then
      { stackerWithout cause s.stackers[n] with lamp := lampConditionOf (retire l cause s) n } else s.stackers[n] := by
  have stackers := retire_stackers s given kept
  have counted := retirementCounts_stackers (l := l) (d := d) s cause
  by_cases own : n = d.stacker
  · subst own
    have shows := recomputeLamp_shows (retirementCounts l d cause s) d.stacker
    have start : (retirementCounts l d cause s).stackers[d.stacker] = stackerWithout cause s.stackers[d.stacker] := by
      rw [counted]
      exact Vector.getElem_set_self d.stacker.isLt
    have store : (retire l cause s).store = (recomputeLamp d.stacker (retirementCounts l d cause s)).store :=
      (retire_frame s l cause .store (by decide)).trans
        ((recomputeLamp_frame _ _ .store (by decide)).trans (retirementCounts_store s cause)).symm
    have same := lampConditionOf_congr (n := d.stacker) store (by rw [stackers]) (by rw [stackers])
    rw [if_pos rfl, stackers, shows, same, start]
  · rw [if_neg own, stackers, recomputeLamp_stackers, if_neg own, counted]
    exact Vector.getElem_set_ne _ _ fun e => own (Fin.ext e.symm)

theorem retire_tally (given : l.disposition = some d) {cause : Retirement} (kept : cause ≠ .abandoned) :
    (retire l cause s).tally = (retirementCounts l d cause s).tally := by
  rw [retire_afterShares l cause s .tally (by decide), retirementShares_of_disposition s given kept,
    recomputeLamp_frame _ _ .tally (by decide)]

theorem counted_tally (cause : Retirement) :
    (retireFrom d.stacker cause (count (tallyOfRetirement cause) (removeLetter l.seq s))).tally
      = (count (tallyOfRetirement cause) s).tally := by
  rw [retireFrom_frame _ _ _ .tally (by decide), count_tally, removeLetter_frame s _ .tally (by decide), count_tally]

theorem deliveredCounts_tally : (retirementCounts l d .delivered s).tally
    = (count (tallyOfArrival d.stacker) (count (tallyOfRetirement .delivered) s)).tally := by
  rw [retirementCounts, count_tally, counted_tally, count_tally, count_tally, count_tally]

theorem lostCounts_tally : (retirementCounts l d .lost s).tally = (count (tallyOfRetirement .lost) s).tally := by
  rw [retirementCounts, setFlag_frame _ _ .tally (by decide), counted_tally]

theorem counted_alike (cause : Retirement) :
    alike (count (tallyOfRetirement cause) s) (retireFrom d.stacker cause (count (tallyOfRetirement cause) (removeLetter l.seq s))) :=
  ((alike.ofFrame (removeLetter_frame s l.seq)).count (by rw [removeLetter_frame s _ .tally (by decide)])).trans
    (.ofFrame (retireFrom_frame _ _ _))

theorem deliveredCounts_alike :
    alike (count (tallyOfArrival d.stacker) (count (tallyOfRetirement .delivered) s)) (retirementCounts l d .delivered s) :=
  (counted_alike s .delivered).count (by rw [counted_tally])

theorem lostCounts_alike : alike (setFlag .lost (count (tallyOfRetirement .lost) s)) (retirementCounts l d .lost s) :=
  (counted_alike s .lost).setFlag _

/-- What follows the counts of a retirement, from any state with the same notices and stackers. -/
theorem retire_afterCounts (given : l.disposition = some d) {cause : Retirement} (kept : cause ≠ .abandoned) {c : State}
    (same : alike c (retirementCounts l d cause s)) (tally : (retirementCounts l d cause s).tally = c.tally) {u : State}
    (recomputed : u = recomputeLamp d.stacker
      (c.withStackers (s.stackers.set d.stacker.val (stackerWithout cause s.stackers[d.stacker]) d.stacker.isLt))) :
    (retire l cause s).tally = c.tally ∧ (retire l cause s).stackers = u.stackers ∧ restOfRetirement l s u (retire l cause s) := by
  have counted := retirementCounts_stackers (l := l) (d := d) s cause
  have start : alike (c.withStackers (s.stackers.set d.stacker.val (stackerWithout cause s.stackers[d.stacker]) d.stacker.isLt))
      (retirementCounts l d cause s) := (alike.ofFrame (withStackers_frame c _)).symm.trans same
  subst recomputed
  refine ⟨(retire_tally s given kept).trans tally, ?_, restOfRetirement_retire ?_⟩
  · rw [retire_stackers s given kept]
    exact recomputeLamp_stackers_congr start.2.2 counted _
  · rw [retirementShares_of_disposition s given kept]
    exact start.recomputeLamp (by rw [counted]; rfl)

end

/-! ## Arrivals (R139, R140) -/

theorem expectsArrival_iff (n : Fin 8) (x : Pos) (l : Letter) : expectsArrival n x l = true ↔
    l.state = .routed ∧ (∃ d, l.disposition = some d ∧ d.stacker = n)
    ∧ ∃ w, l.window = some w ∧ (x - w.start).toNat < 8388608 ∧ (w.stop - x).toNat < 8388608 := by
  unfold expectsArrival atOrPast distance
  cases l.disposition <;> cases l.window <;> simp [and_assoc]

theorem satInc32_toNat (c : BitVec 32) : (satInc32 c).toNat = min (c.toNat + 1) 4294967295 := by
  unfold satInc32
  split
  · next full =>
    rw [full]
    rfl
  · next below =>
    have less : c.toNat ≠ 4294967295 := fun e => below (BitVec.eq_of_toNat_eq e)
    have unit : (1 : BitVec 32).toNat = 1 := rfl
    have bound := c.isLt
    rw [BitVec.toNat_add, unit]
    omega

theorem removed_of_distinct {before after : List Letter} {l : Letter} (distinct : ((before ++ l :: after).map Letter.seq).Nodup) :
    (before ++ l :: after).filter (fun r => r.seq ≠ l.seq) = before ++ after := by
  rw [List.map_append, List.map_cons, List.nodup_middle, List.nodup_cons, ← List.map_append] at distinct
  have others : ∀ k ∈ before ++ after, k.seq ≠ l.seq := fun k mem e => distinct.1 (List.mem_map.mpr ⟨k, mem, e⟩)
  have kept : ∀ ks : List Letter, (∀ k ∈ ks, k.seq ≠ l.seq) → ks.filter (fun r => r.seq ≠ l.seq) = ks := fun ks all =>
    List.filter_eq_self.mpr fun k mem => decide_eq_true (all k mem)
  rw [List.filter_append, List.filter_cons_of_neg (by simp), kept before fun k mem => others k (List.mem_append_left _ mem),
    kept after fun k mem => others k (List.mem_append_right _ mem)]

/-- Settles O40. -/
theorem arrivalsMatched : Obligations.ArrivalsMatched := by
  refine ⟨expectsArrival_iff, fun dest src stacker x s addressed => ⟨fun beyond => ?_, rfl, fun n at_ => ?_⟩⟩
  · exact congrArg Host.Outcome.next ((deliver_taken addressed (by simp [messagePayload, maxPayload, posBytes, natBytes_length])).trans
      (dif_neg (Nat.not_lt.mpr beyond)))
  have number : (⟨stacker.toNat, at_ ▸ n.isLt⟩ : Fin 8) = n := Fin.ext at_
  have taken : exec (.arrive dest src stacker x) s = .next (arriveAt n x s) :=
    congrArg Host.Outcome.next ((deliver_taken addressed (by simp [messagePayload, maxPayload, posBytes, natBytes_length])).trans
      ((dif_pos (at_ ▸ n.isLt)).trans (by rw [number])))
  rw [taken]
  refine ⟨fun none_ => ?_, fun before l after letters distinct expected first => ?_⟩
  · have unmatched : s.track.letters.find? (expectsArrival n x) = none :=
      List.find?_eq_none.mpr fun l mem => by rw [none_ l mem]; decide
    rw [arriveAt, unmatched]
  have matched : s.track.letters.find? (expectsArrival n x) = some l := by
    rw [letters, List.find?_append, List.find?_eq_none.mpr fun b mem => by rw [first b mem]; decide, Option.none_or,
      List.find?_cons_of_pos expected]
  obtain ⟨-, ⟨d, given, own⟩, -⟩ := (expectsArrival_iff n x l).mp expected
  have delivers : arriveAt n x s = retire l .delivered s := by rw [arriveAt, matched]
  have kept : Retirement.delivered ≠ .abandoned := nofun
  rw [delivers]
  subst own
  have tally := (retire_tally s given kept).trans (deliveredCounts_tally s)
  have apart : tallyOfArrival d.stacker ≠ tallyOfRetirement .delivered := fun e => by
    have := congrArg Fin.val e
    simp only [tallyOfArrival, tallyOfRetirement] at this
    omega
  refine ⟨_, rfl, ?_, ?_, satInc32_toNat _, fun j other => ?_, ?_, ?_, fun c u counted recomputed => ?_, retire_frame s l .delivered⟩
  · rw [retire_eq, drainIfEmpty_letters, forgetSubject_frame _ _ .track (by decide), removeBooking_frame _ _ .track (by decide),
      retirementShares_track]
    rw [letters] at distinct ⊢
    exact removed_of_distinct distinct
  · rw [retire_stackers_get s given kept, if_pos rfl]
    rfl
  · rw [retire_stackers_get s given kept, if_neg other]
  · rw [tally, count_tally, countLive_get, if_neg apart.symm, count_tally, countLive_get, if_pos rfl]
  · rw [tally, count_tally, countLive_get, if_pos rfl, count_tally, countLive_get, if_neg apart]
  · subst counted
    exact retire_afterCounts s given kept (deliveredCounts_alike s) (deliveredCounts_tally s) recomputed

end Sys2Proof.Machine
end

section
/-! SUPPORT. The close of a letter: its record, its windows, and what it leaves of the scan unit (R27, R48 to R54). -/

namespace Sys2Proof.Machine

/-! ## The record of a closed letter (R27, R48, R54) -/

section
variable (l : Letter) (L : Nat) (edgelost fault : Bool) (s : State)

/-- Whether a close finds too few lines (R54). -/
def closesGapped : Bool :=
  match s.scan.context with
  | none => false
  | some c => scanGap (scansetOf s.store.tables) L c

/-- The record that a close writes. -/
def closedTo (r : Letter) : Letter :=
  closedRecord (geometryOf s.store.tables) (scansetOf s.store.tables) L edgelost (closesGapped L s)
    (s.scan.context.map fun c => formWindows (scansetOf s.store.tables) L c s.scan) r

/-- A close with its record written and its EDGEFAULT raised. -/
def closeFaulted : State :=
  (fun t : State => if fault then setFlag .edgefault t else t) (modifyLetter l.seq (closedTo L edgelost s) s)

/-- A close with its scan context emptied and its flags raised. -/
def closeFlagged : State :=
  (fun t : State => if closesGapped L s then setFlag .scangap t else t)
    ((closeFaulted l L edgelost fault s).withScan (emptyContext (closeFaulted l L edgelost fault s).scan))

theorem closeLetter_eq : closeLetter l L edgelost fault s
    = setLastTrailing (some (addDistance l.leading L)) (closeFlagged l L edgelost fault s) := rfl

theorem closeFaulted_frame :
    changesOnly [.cond, .ring] (modifyLetter l.seq (closedTo L edgelost s) s) (closeFaulted l L edgelost fault s) :=
  changesOnly.iteSame (setFlag_frame _ _) (changesOnly.refl _ _)

theorem closeFlagged_frame :
    changesOnly [.scan, .cond, .ring] (modifyLetter l.seq (closedTo L edgelost s) s) (closeFlagged l L edgelost fault s) := by
  have emptied : changesOnly [.scan, .cond, .ring] (modifyLetter l.seq (closedTo L edgelost s) s)
      ((closeFaulted l L edgelost fault s).withScan (emptyContext (closeFaulted l L edgelost fault s).scan)) :=
    (withScan_frame _ _).chain ((closeFaulted_frame l L edgelost fault s).mono rfl) rfl
  exact changesOnly.iteSame ((setFlag_frame _ _).chain emptied rfl) emptied

theorem closeLetter_track : (closeLetter l L edgelost fault s).track = { s.track with
    letters := s.track.letters.map fun r => if r.seq = l.seq then closedTo L edgelost s r else r
    lastTrailing := some (l.leading + BitVec.ofNat 24 L) } := by
  have flagged : (closeFlagged l L edgelost fault s).track = (modifyLetter l.seq (closedTo L edgelost s) s).track :=
    closeFlagged_frame l L edgelost fault s .track (by decide)
  rw [closeLetter_eq, setLastTrailing, State.withTrack_track, flagged]
  rfl

theorem closeLetter_alike :
    alike ((fun u : State => if closesGapped L s then setFlag .scangap u else u) (if fault then setFlag .edgefault s else s))
      (closeLetter l L edgelost fault s) := by
  have written : alike s (modifyLetter l.seq (closedTo L edgelost s) s) := .ofFrame (modifyLetter_frame s _ _)
  have faulted : alike (if fault then setFlag .edgefault s else s) (closeFaulted l L edgelost fault s) := by
    cases fault
    · exact written
    · exact written.setFlag _
  have emptied := faulted.trans (.ofFrame (withScan_frame _ (emptyContext (closeFaulted l L edgelost fault s).scan)))
  have flagged : alike ((fun u : State => if closesGapped L s then setFlag .scangap u else u) (if fault then setFlag .edgefault s else s))
      (closeFlagged l L edgelost fault s) := by
    unfold closeFlagged
    dsimp only
    split
    · exact emptied.setFlag _
    · exact emptied
  rw [closeLetter_eq]
  exact flagged.trans (.ofFrame (setLastTrailing_frame _ _))

theorem closeLetter_seqs : (closeLetter l L edgelost fault s).track.letters.map Letter.seq = s.track.letters.map Letter.seq := by
  rw [closeLetter_track]
  dsimp only
  rw [List.map_map]
  refine List.map_congr_left fun r _ => ?_
  rw [Function.comp_apply]
  split <;> rfl

end

theorem scanGap_iff (k : Scanset) (L : Nat) (c : ScanContext) :
    scanGap k L c = true ↔ c.countF.toNat + k.gap < L / 4 ∨ c.countR.toNat + k.gap < L / 4 := by
  rw [scanGap, gapFails, gapFails, Bool.or_eq_true, decide_eq_true_iff, decide_eq_true_iff]

/-! ## The windows (R48, R49, R52) -/

theorem sumStore_eq (store : List LinePartial) (top : Bool) (first n : Nat) :
    sumStore store top first n = (store.filter fun p => decide (first ≤ p.offset ∧ p.offset < first + n)).foldl
      (fun w p => addHalf w p.offset (if top then p.upper else p.lower)) ⟨⟨0, 0, 0⟩, ⟨0, 0, 0⟩, none⟩ := by
  rw [List.foldl_filter, sumStore]
  simp only [decide_eq_true_eq]
  rfl

section
variable {k : Scanset} {L : Nat} {c : ScanContext} {u : ScanUnit} {corner : Corner} {store : List LinePartial} {top : Bool}

theorem formWindows_leading {running : WindowSum} (mem : (corner, running, store, top)
      ∈ ([(.ftl, c.ftl, u.storeF, true), (.fbl, c.fbl, u.storeF, false), (.rtl, c.rtl, u.storeR, true),
        (.rbl, c.rbl, u.storeR, false)] : List (Corner × WindowSum × List LinePartial × Bool))) :
    (formWindows k L c u)[cornerNumber corner]
      = recordOf (leadingRange k.window L) (if 4 * k.window ≤ L then running else sumStore store top 0 L) := by
  simp only [List.mem_cons, Prod.mk.injEq, List.not_mem_nil, or_false] at mem
  rcases mem with ⟨rfl, rfl, rfl, rfl⟩ | ⟨rfl, rfl, rfl, rfl⟩ | ⟨rfl, rfl, rfl, rfl⟩ | ⟨rfl, rfl, rfl, rfl⟩ <;> rfl

theorem formWindows_trailing (mem : (corner, store, top)
      ∈ ([(.ftt, u.storeF, true), (.fbt, u.storeF, false), (.rtt, u.storeR, true),
        (.rbt, u.storeR, false)] : List (Corner × List LinePartial × Bool))) :
    (formWindows k L c u)[cornerNumber corner] = recordOf (trailingRange k.window L)
      (if 4 * k.window ≤ L then sumStore store top (L - 4 * k.window) (4 * k.window) else sumStore store top 0 L) := by
  simp only [List.mem_cons, Prod.mk.injEq, List.not_mem_nil, or_false] at mem
  rcases mem with ⟨rfl, rfl, rfl⟩ | ⟨rfl, rfl, rfl⟩ | ⟨rfl, rfl, rfl⟩ | ⟨rfl, rfl, rfl⟩ <;> rfl

theorem formWindows_q (n : Fin 8) : (formWindows k L c u)[n].q = ratioOf (formWindows k L c u)[n].sum.strength := by
  fin_cases n <;> rfl

end

/-- Settles O45. -/
theorem closeRecordsLetter : Obligations.CloseRecordsLetter := by
  refine ⟨fun l L edgelost fault c s context g k t geometry_eq scanset_eq closed => ?_, fun k L c u ws windows summed sums =>
    ⟨fun corner running store top mem => ?_, fun corner store top mem => ?_, fun n total total_eq => ?_⟩,
    fun u c context => ⟨fun none_ => ?_, fun o some_ => ?_⟩⟩
  · subst geometry_eq scanset_eq closed
    have gap : closesGapped L s = scanGap (scansetOf s.store.tables) L c := by rw [closesGapped, context]
    have signals := closeLetter_alike l L edgelost fault s
    have track := closeLetter_track l L edgelost fault s
    refine ⟨?_, ?_, ?_, ?_, ?_, ?_, closeLetter_scan l L edgelost fault s, fun faulty => ?_, fun gapped => ?_, fun u v hu hv => ?_,
      closeLetter_frame s l L edgelost fault⟩
    · rw [track]
      refine List.map_congr_left fun r _ => ?_
      have record : closedTo L edgelost s r = { r with
          length := some L
          windows := some (formWindows (scansetOf s.store.tables) L c s.scan)
          flags := { r.flags with
            long := r.flags.long || decide ((geometryOf s.store.tables).maxLength < L)
            short := r.flags.short || decide (L < (geometryOf s.store.tables).minLength)
            edgelost := r.flags.edgelost || edgelost
            scangap := r.flags.scangap || scanGap (scansetOf s.store.tables) L c
            shortscan := r.flags.shortscan || decide (L < 4 * (scansetOf s.store.tables).window) } } := by
        rw [closedTo, gap, context]
        rfl
      have gapBit : decide (c.countF.toNat + (scansetOf s.store.tables).gap < L / 4 ∨ c.countR.toNat + (scansetOf s.store.tables).gap < L / 4)
          = scanGap (scansetOf s.store.tables) L c := by
        rw [scanGap, gapFails, gapFails, Bool.decide_or]
      rw [record, gapBit]
    · rw [track]
    · rw [track]
    · rw [track]
    · rw [track]
    · rw [track]
    · rw [signals.flagSet]
      subst faulty
      dsimp only
      split
      · exact setFlag_keeps _ _ _ (setFlag_sets _ _)
      · exact setFlag_sets _ _
    · rw [signals.flagSet]
      dsimp only
      rw [if_pos (gap.trans ((scanGap_iff _ _ _).mpr gapped))]
      exact setFlag_sets _ _
    · rw [hv, hu]
      simp only [gap, scanGap_iff] at signals
      exact signals.signals
  · rw [windows, formWindows_leading mem, sums, ← sumStore_eq, recordOf, leadingRange]
    refine ⟨fun long => ?_, fun short => ?_⟩
    · rw [if_pos long, if_pos long]
      exact ⟨rfl, rfl⟩
    · rw [if_neg (Nat.not_le.mpr short), if_neg (Nat.not_le.mpr short)]
      exact ⟨rfl, rfl⟩
  · rw [windows, formWindows_trailing mem, sums, sums, ← sumStore_eq, ← sumStore_eq, recordOf, trailingRange]
    refine ⟨fun long => ?_, fun short => ?_⟩
    · rw [if_pos long, if_pos long]
      exact ⟨rfl, rfl⟩
    · rw [if_neg (Nat.not_le.mpr short), if_neg (Nat.not_le.mpr short)]
      exact ⟨rfl, rfl⟩
  · subst windows total_eq
    exact formWindows_q n
  · rw [lengthSeen, context]
    simp only [none_]
  · rw [lengthSeen, context]
    simp only [some_]

end Sys2Proof.Machine
end

section
/-! SUPPORT. The advance of the belt: its owners' orders, the two tests of the track, and letters lost (R3, R4, R34 to R37). -/

namespace Sys2Proof.Machine

/-! ## A position ahead of the belt (R1, R3) -/

theorem distance_toNat (a b : Pos) : distance a b = (b.toNat + 16777216 - a.toNat) % 16777216 := by
  have bound := a.isLt
  rw [distance, BitVec.toNat_sub]
  omega

theorem aheadOf_iff (belt f : Pos) :
    aheadOf belt f = true ↔ (f.toNat + 16777216 - belt.toNat) % 16777216 < 8388608 ∧ f ≠ belt := by
  rw [aheadOf, atOrPast, distance_toNat, Bool.and_eq_true, decide_eq_true_iff, decide_eq_true_iff]

theorem mem_ownerOrders (o : Config.OwnerOrder) : o ∈ ownerOrders := by
  obtain ⟨c, r⟩ := o
  cases c <;> cases r <;> decide

theorem ownersAdvance_inOrder (s : State) : ∃ o ∈ ownerOrders, ∃ k, ownersAdvance s = inOrder o (s.withChoices k) := by
  unfold ownersAdvance
  split
  · exact ⟨_, mem_ownerOrders _, s.choices, rfl⟩
  · exact ⟨_, mem_ownerOrders _, s.choices + 1, rfl⟩

theorem inOrder_each (s : State) :
    inOrder ⟨true, true⟩ s = trackAdvance (expireBookings (retirePlan s))
      ∧ inOrder ⟨true, false⟩ s = retirePlan (trackAdvance (expireBookings s))
      ∧ inOrder ⟨false, true⟩ s = expireBookings (trackAdvance (retirePlan s))
      ∧ inOrder ⟨false, false⟩ s = expireBookings (retirePlan (trackAdvance s))
      ∧ trackAdvance s = (s.track.letters.map Letter.seq).foldl (fun u q => testWindowEnd q (testDeadline q u)) s := by
  simp only [inOrder, trackAdvance, if_true, if_false, Bool.false_eq_true, and_self]

/-! ## An advance with nothing in flight (R4) -/

theorem retirePlan_of_empty {s : State} (empty : s.routing.plan = []) : retirePlan s = s := by
  have same : { s.routing with plan := retireEntries s.position.belt s.routing.plan } = s.routing := by
    rw [empty]
    exact congrArg (fun p => { s.routing with plan := p }) empty.symm
  rw [retirePlan, same]
  rfl

theorem expireHead_of_empty {s : State} {h : Fin 4} (empty : s.heads[h].bookings = []) : expireHead h s = s := by
  rw [expireHead, empty]
  rfl

theorem expireBookings_of_empty {s : State} (empty : noBookings s) : expireBookings s = s := by
  rw [expireBookings_eq, expireHead_of_empty (empty 0), expireHead_of_empty (empty 1), expireHead_of_empty (empty 2),
    expireHead_of_empty (empty 3)]

theorem trackAdvance_of_empty {s : State} (empty : s.track.letters = []) : trackAdvance s = s := by
  rw [trackAdvance, empty]
  rfl

theorem inOrder_of_empty {s : State} (letters : s.track.letters = []) (plan : s.routing.plan = []) (bookings : noBookings s)
    (o : Config.OwnerOrder) : inOrder o s = s := by
  obtain ⟨c, r⟩ := o
  cases c <;> cases r <;>
    simp only [inOrder, if_true, if_false, Bool.false_eq_true, retirePlan_of_empty plan, expireBookings_of_empty bookings,
      trackAdvance_of_empty letters]

theorem ownersAdvance_of_empty {s : State} (letters : s.track.letters = []) (plan : s.routing.plan = []) (bookings : noBookings s) :
    ownersAdvance s = s := by
  have same : ∀ o, inOrder o s = s := inOrder_of_empty letters plan bookings
  rw [ownersAdvance, if_pos (List.all_eq_true.mpr fun o _ => decide_eq_true (by rw [same, same])), same]

/-! ## The two tests of a letter (R34 to R37) -/

theorem findLetter_congr {s t : State} (track : t.track.letters = s.track.letters) (q : Seq) : findLetter t q = findLetter s q := by
  rw [findLetter, findLetter, track]

theorem closeLetter_finds {l : Letter} {q : Seq} {s : State} (found : findLetter s q = some l) (k : Letter) (L : Nat)
    (edgelost fault : Bool) : ∃ c, findLetter (closeLetter k L edgelost fault s) q = some c := by
  obtain ⟨mem, seq⟩ := findLetter_spec s found
  have inTrack : q ∈ (closeLetter k L edgelost fault s).track.letters.map Letter.seq := by
    rw [closeLetter_seqs, ← seq]
    exact List.mem_map_of_mem mem
  obtain ⟨c, foundClosed, -⟩ := findLetter_isSome inTrack
  exact ⟨c, foundClosed⟩

theorem testDeadline_routed {q : Seq} {s : State} {l : Letter} (found : findLetter s q = some l)
    (stands : l.state = .routed ∨ ¬ (s.position.belt - l.deadline).toNat < 8388608) : testDeadline q s = s := by
  rw [testDeadline, found]
  refine if_neg fun reached => ?_
  rw [deadlineReached, Bool.and_eq_true, decide_eq_true_iff, atOrPast, decide_eq_true_iff] at reached
  exact stands.elim reached.1 fun n => n reached.2

theorem testDeadline_due {q : Seq} {s : State} {l : Letter} (found : findLetter s q = some l) (unrouted : l.state ≠ .routed)
    (due : (s.position.belt - l.deadline).toNat < 8388608) : testDeadline q s = declareLate l s := by
  rw [testDeadline, found]
  refine if_pos ?_
  rw [deadlineReached, Bool.and_eq_true, decide_eq_true_iff, atOrPast, decide_eq_true_iff]
  exact ⟨unrouted, due⟩

theorem windowEnded_eq (belt : Pos) (l : Letter) :
    windowEnded belt l = true ↔ l.state = .routed ∧ ∃ w, l.window = some w ∧ (belt - w.stop).toNat < 8388608 := by
  unfold windowEnded atOrPast distance
  cases l.window <;> simp

/-! ## Letters lost (R19, R37, R141) -/

theorem lost_retired {l : Letter} {d : Disposition} {s t : State} (given : l.disposition = some d) (lost : t = retire l .lost s) :
    t.tally.live[tallyOfRetirement .lost] = s.tally.live[tallyOfRetirement .lost] + 1
      ∧ (∀ i : Fin 64, i ≠ tallyOfRetirement .lost → t.tally.live[i] = s.tally.live[i])
      ∧ flagSet t .lost = true
      ∧ (∀ n : Fin 8, t.stackers[n] = if n = d.stacker then
            ⟨s.stackers[n].inFlight - 1, s.stackers[n].arrived, lampConditionOf t n⟩ else s.stackers[n])
      ∧ (∀ c u, c = count (tallyOfRetirement .lost) s →
        u = recomputeLamp d.stacker { setFlag .lost c with stackers := s.stackers.set d.stacker.val {
          s.stackers[d.stacker] with inFlight := s.stackers[d.stacker].inFlight - 1 } d.stacker.isLt } →
        t.tally = c.tally ∧ t.stackers = u.stackers ∧ restOfRetirement l s u t)
      ∧ changesOnly [.track, .eval, .routing, .heads, .stackers, .tally, .cond, .ring] s t := by
  rw [lost]
  clear lost t
  have kept : Retirement.lost ≠ .abandoned := nofun
  have tally := (retire_tally s given kept).trans (lostCounts_tally s)
  refine ⟨?_, fun i other => ?_, ?_, fun n => ?_, fun c u counted recomputed => ?_, retire_frame s l .lost⟩
  · rw [tally, count_tally, countLive_get, if_pos rfl]
  · rw [tally, count_tally, countLive_get, if_neg other]
  · have cond : (retire l .lost s).cond = (recomputeLamp d.stacker (retirementCounts l d .lost s)).cond := by
      rw [retire_afterShares l .lost s .cond (by decide), retirementShares_of_disposition s given kept]
    rw [flagSet, cond]
    exact (recomputeLamp_signals _ _).flags (setFlag_sets _ _)
  · exact retire_stackers_get s given kept n
  · subst counted
    have flagged : (setFlag .lost (count (tallyOfRetirement .lost) s)).tally = (count (tallyOfRetirement .lost) s).tally :=
      setFlag_frame _ _ .tally (by decide)
    rw [← flagged]
    exact retire_afterCounts s given kept (lostCounts_alike s) ((lostCounts_tally s).trans flagged.symm) recomputed

/-- Settles O41. -/
theorem positionsAdvanceTheBelt : Obligations.PositionsAdvanceTheBelt := by
  refine ⟨fun dest src f s addressed u belt ahead ahead_eq => ?_, inOrder_each, fun q s => ⟨fun gone => ?_, fun l found => ?_⟩,
    fun l d s t given lost => lost_retired given lost⟩
  · have taken : exec (.tick dest src f) s = .next (takePosition f s) :=
      congrArg Host.Outcome.next (deliver_taken addressed (m := .tick f) (by simp [messagePayload, maxPayload, posBytes, natBytes_length]))
    have tests : aheadOf s.position.belt f = true ↔ ahead := ahead_eq ▸ aheadOf_iff _ _
    have moved : ahead → takePosition f s = ownersAdvance u := fun yes => by
      rw [takePosition, if_pos (tests.mpr yes), belt]
      rfl
    have own : u.position.belt = f := by rw [belt]
    refine ⟨fun no => ?_, taken, fun yes => ⟨?_, ?_, ?_⟩, fun yes letters plan bookings => ?_⟩
    · rw [taken, takePosition, if_neg fun h => no (tests.mp h)]
    · rw [taken, moved yes]
    · rw [ownersAdvance_frame _ .position (by decide), own]
    · exact ownersAdvance_inOrder u
    · rw [taken, moved yes, ownersAdvance_of_empty (by rw [belt]; exact letters) (by rw [belt]; exact plan) (by rw [belt]; exact bookings)]
  · rw [testDeadline, testWindowEnd, gone]
    exact ⟨rfl, rfl⟩
  · have seq := (findLetter_spec s found).2
    refine ⟨fun due due_eq => ?_, fun stands => ?_, fun w routed window => ⟨fun ended => ?_, fun open_ => ?_⟩⟩
    · subst due_eq
      refine ⟨testDeadline_routed found, fun due state => ?_, fun due state => ?_, fun due state u closed => ?_⟩
      · have leaves : leaveState l s = s := by rw [leaveState, state]
        rw [testDeadline_due found (by rw [state]; decide) due, declareLate_eq, giveLate, leaves, seq, found]
      · have leaves : leaveState l s = dropFromQueue q s := by rw [leaveState, state, ← seq]
        have finds : findLetter (dropFromQueue q s) q = some l := found
        rw [testDeadline_due found (by rw [state]; decide) due, declareLate_eq, giveLate, leaves, seq, finds]
        rfl
      · obtain ⟨c, finds⟩ := closeLetter_finds found l (lengthSeen s.scan) true true
        rw [← closed] at finds
        have leaves : leaveState l s = setTrailExpected true u := by rw [leaveState, state, closed]; rfl
        have findsLeft : findLetter (setTrailExpected true u) q = some c := finds
        refine ⟨c, finds, ?_⟩
        rw [testDeadline_due found (by rw [state]; decide) due, declareLate_eq, giveLate, leaves, seq, findsLeft]
        rfl
    · rw [testWindowEnd, found]
      refine if_neg fun ended => ?_
      obtain ⟨routed, w, window, -⟩ := (windowEnded_eq _ _).mp ended
      exact stands.elim (fun n => n routed) fun n => nomatch n.symm.trans window
    · rw [testWindowEnd, found]
      exact if_pos ((windowEnded_eq _ _).mpr ⟨routed, w, window, ended⟩)
    · rw [testWindowEnd, found]
      refine if_neg fun ended => ?_
      obtain ⟨-, w', window', past⟩ := (windowEnded_eq _ _).mp ended
      obtain rfl : w = w' := Option.some.inj (window.symm.trans window')
      exact Nat.not_lt.mpr open_ past

end Sys2Proof.Machine
end

section
/-! SUPPORT. The edges of letters at the scan unit's eye: LEAD and TRAIL (R28 to R33, R59, R60). -/

namespace Sys2Proof.Machine

/-! ## Notices beside the track (R186, R188) -/

section
variable (x : LetterTrack) (s : State)

theorem sendNotice_withTrack (n : Reply) : sendNotice n (s.withTrack x) = (sendNotice n s).withTrack x := by
  have places : freeAnswerPlaces (s.withTrack x) = freeAnswerPlaces s := rfl
  rw [sendNotice, sendNotice, places]
  split <;> rfl

theorem setFlag_withTrack (f : ConditionFlag) : setFlag f (s.withTrack x) = (setFlag f s).withTrack x := by
  unfold setFlag
  have marked : markFlag f (s.withTrack x) = (markFlag f s).withTrack x := rfl
  have set : flagSet (s.withTrack x) f = flagSet s f := rfl
  have masked : flagMasked (s.withTrack x) f = flagMasked s f := rfl
  have station_ : noticeStation (s.withTrack x) = noticeStation s := rfl
  rw [set, masked, marked, station_, sendNotice_withTrack]
  split
  · rfl
  · split <;> rfl

theorem count_withTrack (i : Fin 64) : count i (s.withTrack x) = (count i s).withTrack x := by
  have tally : (s.withTrack x).tally = s.tally := rfl
  have counted : (s.withTrack x).withTally (countLive s.tally i) = (s.withTally (countLive s.tally i)).withTrack x := rfl
  unfold count
  dsimp only
  rw [tally, counted, setFlag_withTrack]
  split <;> rfl

theorem sendHalt_withTrack (c : HaltCause) : sendHalt c (s.withTrack x) = (sendHalt c s).withTrack x :=
  sendNotice_withTrack x s _

end

/-! ## LEAD edges (R28 to R31) -/

theorem refuseLead_eq (s : State) : refuseLead (setTrailExpected false s)
    = { sendHalt .trackfull (setFlag .trackfull (count tallyUntracked s)) with track := { s.track with trailExpected := true } } := by
  have refused : sendHalt .trackfull (setFlag .trackfull (count tallyUntracked (setTrailExpected false s)))
      = (sendHalt .trackfull (setFlag .trackfull (count tallyUntracked s))).withTrack { s.track with trailExpected := false } := by
    rw [← sendHalt_withTrack, ← setFlag_withTrack, ← count_withTrack]
    rfl
  rw [refuseLead, refused]
  rfl

theorem setTrailExpected_count (s : State) :
    setTrailExpected true (count tallyUntracked s) = { count tallyUntracked s with track := { s.track with trailExpected := true } } := by
  rw [setTrailExpected, count_frame s _ .track (by decide)]
  rfl

theorem freeNumber_first {letters : List Letter} (few : letters.length < 65536) (n q : Seq)
    (before : (q - n).toNat < (freeNumber letters letters.length n - n).toNat) : ∃ k ∈ letters, k.seq = q := by
  obtain ⟨k, hk, number, held, -⟩ := freeNumber_spec letters letters.length n
  have offset : (freeNumber letters letters.length n - n).toNat = k := by
    rw [number, BitVec.add_comm, BitVec.add_sub_cancel, BitVec.toNat_ofNat]
    omega
  rw [offset] at before
  have mem := held _ before
  rw [BitVec.ofNat_toNat, BitVec.setWidth_eq, BitVec.add_comm, BitVec.sub_add_cancel] at mem
  exact List.mem_map.mp mem

theorem crowdedAt_iff (g : Geometry) (last : Option Pos) (f : Pos) : crowdedAt g last f = true
    ↔ ∃ p, last = some p ∧ (if (f - p).toNat < 8388608 then (f - p).toNat else 0) < g.minGap := by
  cases last with
  | none => exact iff_of_false nofun nofun
  | some p =>
    rw [crowdedAt, decide_eq_true_iff, atOrPast, distance]
    simp only [decide_eq_true_eq, Option.some.injEq, exists_eq_left']

section
variable (f : Pos) (v : State)

/-- An admission before its scan context is opened. -/
theorem admitLetter_counted : ∃ x u, admitLetter f (setTrailExpected false v) = ((count tallyEntered v).withTrack x).withScan u := by
  simp only [← count_withTrack]
  exact ⟨_, _, rfl⟩

theorem admitLetter_tally : (admitLetter f (setTrailExpected false v)).tally = (count tallyEntered v).tally := by
  obtain ⟨x, u, e⟩ := admitLetter_counted f v
  rw [e]
  rfl

theorem admitLetter_notices : (admitLetter f (setTrailExpected false v)).cond = (count tallyEntered v).cond
    ∧ (admitLetter f (setTrailExpected false v)).ring = (count tallyEntered v).ring := by
  obtain ⟨x, u, e⟩ := admitLetter_counted f v
  rw [e]
  exact ⟨rfl, rfl⟩

end

/-- Settles O43. -/
theorem leadEdgeTaken : Obligations.LeadEdgeTaken := by
  intro dest src f s addressed u positioned
  have taken : exec (.leadEdge dest src f) s = .next (leadEdgeAt f u) := by
    subst positioned
    exact congrArg Host.Outcome.next (deliver_taken addressed (m := .leadEdge f) (by simp [messagePayload, maxPayload, posBytes, natBytes_length]))
  rw [taken]
  refine ⟨fun stands => ?_, fun runs v closed => ⟨fun full => ?_, fun room => ?_⟩⟩
  · have mode : laneRuns u.track.mode = false := by rcases stands with e | e <;> rw [e] <;> rfl
    rw [leadEdgeAt_stopped mode, setTrailExpected_count]
  all_goals
    have mode : laneRuns u.track.mode = true := by rcases runs with e | e <;> rw [e] <;> rfl
    have closes : closeOpen u = v := closed.symm
    rw [leadEdgeAt_running mode, closes, takeLead]
  · rw [if_neg (show ¬ (setTrailExpected false v).track.letters.length < trackCapacity from Nat.not_lt.mpr full), refuseLead_eq]
  · rw [if_pos (show (setTrailExpected false v).track.letters.length < trackCapacity from room)]
    have few : v.track.letters.length < 65536 := Nat.lt_trans room (by decide)
    refine ⟨_, newLetter (setTrailExpected false v) (freeNumber v.track.letters v.track.letters.length v.track.seqCounter) f, rfl, ?_, rfl,
      fun d formed => ?_, fun k mem same => ?_, fun q before => freeNumber_first few _ q before, crowdedAt_iff _ _ _, fun e empty => ?_,
      ?_, ?_, ?_, ?_, ?_, fun w counted => ?_, ?_⟩
    · exact count_frame _ _ .track (by decide)
    · have deadline : deadlineDistance (setTrailExpected false v) = d.deadline := by
        rw [deadlineDistance, setTrailExpected_frame v _ .position (by decide), formed]
      rw [newLetter, deadline]
      rfl
    · exact freeNumber_free few _ (List.mem_map.mpr ⟨k, mem, same⟩)
    · rw [admitLetter_scan, empty]
      rfl
    · rw [admitLetter_scan]
      rfl
    · rw [admitLetter_scan]
      rfl
    · rw [admitLetter_scan]
      rfl
    · rw [admitLetter_scan]
      rfl
    · rw [admitLetter_tally, count_tally, countLive_get, if_pos rfl]
    · exact counted ▸ ⟨admitLetter_tally f v, admitLetter_notices f v⟩
    · exact (admitLetter_frame _ f).chain ((setTrailExpected_frame v false).mono rfl) rfl

/-! ## TRAIL edges (R32, R33) -/

theorem trailLength_eq (leading x : Pos) {d : Nat} (apart : d = (x.toNat + 16777216 - leading.toNat) % 16777216) :
    trailLength leading x = (if 8388608 ≤ d then 0 else min d 4095, decide (8388608 ≤ d)) := by
  rw [← distance_toNat] at apart
  subst apart
  rw [trailLength, atOrPast, offsetIn]
  by_cases behind : 8388608 ≤ distance leading x
  · rw [decide_eq_false (Nat.not_lt.mpr behind), if_pos (by decide), if_pos behind, decide_eq_true behind]
  · rw [decide_eq_true (Nat.lt_of_not_le behind), if_neg (by decide), if_neg behind, decide_eq_false behind]
    by_cases within : distance leading x ≤ 4095
    · rw [if_pos within, Nat.min_eq_left within]
    · rw [if_neg within, Nat.min_eq_right (Nat.le_of_not_le within)]

theorem modifyLetter_twice (q : Seq) (f g : Letter → Letter) (keeps : ∀ l, (f l).seq = l.seq) (s : State) :
    (modifyLetter q g (modifyLetter q f s)).track.letters = s.track.letters.map fun l => if l.seq = q then g (f l) else l := by
  rw [modifyLetter_letters, modifyLetter_letters, List.map_map]
  refine List.map_congr_left fun l _ => ?_
  rw [Function.comp_apply]
  by_cases own : l.seq = q
  · rw [if_pos own, if_pos own, keeps, if_pos own]
  · rw [if_neg own, if_neg own, if_neg own]

theorem queueLetter_busy {q : Seq} {s : State} (busy : s.eval.busy = true) :
    queueLetter q s = setLetterState q .queued (s.withEval { s.eval with queue := s.eval.queue ++ [q] }) := if_pos busy

theorem queueLetter_idle {q : Seq} {s : State} (idle : s.eval.busy = false) (empty : s.eval.queue = []) :
    queueLetter q s = (s.withEval ⟨true, some q, []⟩).withTrack { s.track with
      letters := s.track.letters.map fun l => if l.seq = q then { l with state := .evaluating } else l } := by
  have waits : (setLetterState q .queued (s.withEval { s.eval with queue := s.eval.queue ++ [q] })).eval.queue = [q] := by
    rw [setLetterState_frame _ _ _ .eval (by decide), State.withEval_eval, empty]
    rfl
  have twice := modifyLetter_twice q (fun l => { l with state := .queued }) (fun l => { l with state := .evaluating }) (fun _ => rfl) s
  have started : queueLetter q s = startEvaluation (setLetterState q .queued (s.withEval { s.eval with queue := s.eval.queue ++ [q] })) :=
    if_neg (show ¬ s.eval.busy = true by rw [idle]; decide)
  rw [started, startEvaluation, waits]
  refine Eq.trans ?_ (congrArg (fun ls => (s.withEval ⟨true, some q, []⟩).withTrack { s.track with letters := ls }) twice)
  rfl

/-- Settles O44. -/
theorem trailEdgeTaken : Obligations.TrailEdgeTaken := by
  refine ⟨fun dest src x s addressed u positioned running runs => ?_, fun q s marked marks => ⟨fun busy => ?_, fun idle empty => ?_⟩⟩
  · have taken : exec (.trailEdge dest src x) s = .next (trailEdgeAt x u) := by
      subst positioned
      exact congrArg Host.Outcome.next
        (deliver_taken addressed (m := .trailEdge x) (by simp [messagePayload, maxPayload, posBytes, natBytes_length]))
    have mode : laneRuns u.track.mode = running := runs.symm
    rw [taken]
    refine ⟨fun l opened d apart => ?_, fun none_ expected => ?_, fun none_ unexpected v counted => ?_⟩
    · rw [trailEdgeAt, opened]
      dsimp only
      rw [trailLength_eq l.leading x apart]
    · have loose : trailEdgeAt x u
          = if running then setLastTrailing (some x) (setTrailExpected false u) else setTrailExpected false u := by
        rw [trailEdgeAt, none_, ← mode]
        exact if_pos expected
      rw [loose]
      cases running <;> rfl
    · rw [trailEdgeAt, none_, ← mode, counted]
      exact congrArg Host.Outcome.next (if_neg (by rw [unexpected]; decide))
  · rw [queueLetter_busy busy, marks]
    rfl
  · rw [queueLetter_idle idle empty, marks]
    rfl

end Sys2Proof.Machine
end

section
/-! SUPPORT. The fields of the tables' rows and the path conversion (R10, R171 to R174). -/

namespace Sys2Proof.Machine

/-! ## The fields of a row (R171) -/

theorem byteAt_eq (r : Row) (k : Nat) : ((rowBytes r).getD k 0).toNat = byteAt r k := by
  have shift : r.toNat >>> (8 * k) = r.toNat / 256 ^ k := by
    rw [Nat.shiftRight_eq_div_pow, pow_mul]
    norm_num
  rw [rowBytes, natBytes_eq_map, byteAt, shift, List.getD_eq_getElem?_getD, List.getElem?_map]
  by_cases within : k < 16
  · rw [List.getElem?_range within]
    exact BitVec.toNat_ofNat _ _
  · have small : r.toNat < 256 ^ k :=
      Nat.lt_of_lt_of_le r.isLt (Nat.le_trans (by decide : 2 ^ 128 ≤ 256 ^ 16) (Nat.pow_le_pow_right (by decide) (Nat.le_of_not_lt within)))
    rw [List.getElem?_eq_none (by simpa using within), Nat.div_eq_of_lt small]
    rfl

theorem word16At_eq (r : Row) (k : Nat) : word16At r k = byteAt r k + 256 * byteAt r (k + 1) := by
  have next : r.toNat >>> (8 * (k + 1)) = r.toNat >>> (8 * k) / 256 := by
    rw [Nat.mul_succ, Nat.shiftRight_add]
    exact Nat.shiftRight_eq_div_pow _ 8
  rw [word16At, byteAt, byteAt, next]
  omega

theorem word24At_eq (r : Row) (k : Nat) : word24At r k = word16At r k + 65536 * byteAt r (k + 2) := by
  have next : r.toNat >>> (8 * (k + 2)) = r.toNat >>> (8 * k) / 65536 := by
    rw [Nat.mul_add, Nat.shiftRight_add]
    exact Nat.shiftRight_eq_div_pow _ 16
  rw [word24At, word16At, byteAt, next]
  omega

theorem bitAt_first (r : Row) : bitAt r 0 0 = decide (byteAt r 0 % 2 = 1) := by
  have low : byteAt r 0 % 2 = r.toNat % 2 := by
    rw [byteAt, Nat.mul_zero, Nat.shiftRight_zero]
    omega
  rw [bitAt, low]
  simp [BitVec.getLsbD, Nat.testBit_zero]

section
variable {row : Row} {b w : Nat → Nat} (bytes : ∀ k, b k = ((rowBytes row).getD k 0).toNat) (words : ∀ k, w k = b k + 256 * b (k + 1))
include bytes

theorem byteAt_of_bytes (k : Nat) : byteAt row k = b k := by rw [bytes, byteAt_eq]

theorem optionalAt_of_bytes {opt : Nat → Option Nat} (options : ∀ k, opt k = if b k = 255 then none else some (b k)) (k : Nat) :
    optionalAt row k = opt k := by
  rw [options, optionalAt, byteAt_of_bytes bytes]

include words

theorem word16At_of_bytes (k : Nat) : word16At row k = w k := by
  rw [words, word16At_eq, byteAt_of_bytes bytes, byteAt_of_bytes bytes]

theorem word24At_of_bytes (k : Nat) : word24At row k = w k + 65536 * b (k + 2) := by
  rw [word24At_eq, word16At_of_bytes bytes words, byteAt_of_bytes bytes]

end

/-! ## The conversion of a path distance (R10) -/

theorem convert_turn_far {dGate scale d : Nat} (far : dGate ≤ d) :
    convert dGate scale .turn d = dGate + ((d - dGate) * scale + 2048) / 4096 := if_neg (Nat.not_lt.mpr far)

theorem convert_turn_near {dGate scale d : Nat} (near : d < dGate) : convert dGate scale .turn d = d := if_pos near

theorem convert_mono (dGate scale : Nat) {d e : Nat} (less : d ≤ e) (p : Path) : convert dGate scale p d ≤ convert dGate scale p e := by
  cases p with
  | straight => exact less
  | turn =>
    by_cases near : e < dGate
    · rw [convert_turn_near near, convert_turn_near (Nat.lt_of_le_of_lt less near)]
      exact less
    · rw [convert_turn_far (Nat.le_of_not_lt near)]
      by_cases close : d < dGate
      · rw [convert_turn_near close]
        omega
      · rw [convert_turn_far (Nat.le_of_not_lt close)]
        have scaled : (d - dGate) * scale ≤ (e - dGate) * scale := Nat.mul_le_mul_right _ (Nat.sub_le_sub_right less _)
        exact Nat.add_le_add_left (Nat.div_le_div_right (Nat.add_le_add_right scaled _)) _

/-- Settles O60. -/
theorem pathConversion : Obligations.PathConversion := by
  refine ⟨fun dGate scale d e => ⟨rfl, convert_turn_near, fun far => ?_, fun less p => convert_mono dGate scale less p⟩,
    fun row b w bytes words opt options => ?_, fun a b => ?_, natBytes_eq_map, fun _ => rfl, rfl, rfl, fun ts b w bytes words => ?_⟩
  · rw [convert_turn_far far, Nat.add_sub_cancel_left]
    omega
  · have byte := byteAt_of_bytes bytes
    have word := word16At_of_bytes bytes words
    have long := word24At_of_bytes bytes words
    have option := optionalAt_of_bytes bytes options
    refine ⟨?_, ?_, ?_, ?_⟩
    · rw [signatureEntry, bitAt_first, byte, word, word, long, long, long, byte, byte]
    · rw [routingRow, bitAt_first, byte, byte, word, byte, byte, word, word, byte, option, byte, option, option]
    · rw [patternRow, byte, byte, word, word, byte, byte]
    · rw [stackerRow, word, word, word, word, word, option, option]
  · rw [atOrPast, distance_toNat]
    exact ⟨rfl, rfl⟩
  · have byte : ∀ t i k, byteAt (tableRow ts t i) k = b t i k := fun t i => byteAt_of_bytes (bytes t i)
    have word : ∀ t i k, word16At (tableRow ts t i) k = w t i k := fun t i => word16At_of_bytes (bytes t i) (words t i)
    have long : ∀ t i k, word24At (tableRow ts t i) k = w t i k + 65536 * b t i (k + 2) := fun t i => word24At_of_bytes (bytes t i) (words t i)
    refine ⟨?_, ?_, ?_, ?_, ?_, fun k few => ?_, rfl, rfl, fun h => rfl, fun p few => ?_⟩
    · simp only [geometryOf, word, byte]
    · simp only [scansetOf, word, byte]
    · simp only [officeNumber, long]
    · simp only [laneNumber, byte]
    · simp only [cutoverHour, byte]
    · simp only [officeStation, byte]
    · simp only [lampSteps, word]

end Sys2Proof.Machine
end

section
/-! SUPPORT. The gate check, the rows that a letter matches, the row request, and the tests of a booking request (R78, R82, R83, R98 to
R100, R132). -/

namespace Sys2Proof.Machine

/-! ## The gate check (R75, R82, R83) -/

section
variable {g : Geometry} {r : RoutingUnit} {x : Pos} {p : Path}

theorem gateCheck_empty (empty : r.plan = []) : pathInEffect r = r.gatePath ∧ (p = r.gatePath → gateCheck g r x p = .follow)
    ∧ (p ≠ r.gatePath → gateCheck g r x p = .switch (x + BitVec.ofNat 24 (g.dGate - g.lGate))) := by
  have last : r.plan.getLast? = none := by rw [empty]; rfl
  have effect : pathInEffect r = r.gatePath := by rw [pathInEffect, last]
  refine ⟨effect, fun same => ?_, fun other => ?_⟩
  · rw [gateCheck, effect, if_pos same]
  · rw [gateCheck, effect, if_neg other, last]
    rfl

theorem gateCheck_behind {plan : List PlanEntry} {j : PlanEntry} (list : r.plan = plan ++ [j]) : pathInEffect r = j.path
    ∧ (p = j.path → gateCheck g r x p = .follow)
    ∧ (p ≠ j.path → ∀ gap, gap = (if (x - j.trailing).toNat < 8388608 then (x - j.trailing).toNat else 0) →
      (j.edgelost = false → g.sGate ≤ gap → gateCheck g r x p = .switch (j.trailing + BitVec.ofNat 24 g.dGate))
      ∧ (j.edgelost = true ∨ gap < g.sGate → gateCheck g r x p = .forced)) := by
  have last : r.plan.getLast? = some j := by rw [list, List.getLast?_concat]
  have effect : pathInEffect r = j.path := by rw [pathInEffect, last]
  refine ⟨effect, fun same => ?_, fun other gap apart => ?_⟩
  · rw [gateCheck, effect, if_pos same]
  have gap_eq : gapFrom j x = gap := by
    rw [apart, gapFrom, atOrPast, distance]
    simp only [decide_eq_true_eq]
  have behind : gateCheck g r x p
      = if !j.edgelost && decide (g.sGate ≤ gap) then .switch (j.trailing + BitVec.ofNat 24 g.dGate) else .forced := by
    rw [gateCheck, effect, if_neg other, last, ← gap_eq]
    rfl
  rw [behind]
  refine ⟨fun kept wide => ?_, fun narrow => ?_⟩
  · rw [kept, decide_eq_true wide]
    rfl
  · refine if_neg fun switches => ?_
    rw [Bool.and_eq_true, Bool.not_eq_true', decide_eq_true_iff] at switches
    exact narrow.elim (fun lost => Bool.noConfusion (lost.symm.trans switches.1)) fun less => Nat.not_lt.mpr switches.2 less

end

/-! ## Rows (R78, R81) -/

/-- The letter flags in the order of their bits. -/
def flagList (f : LetterFlags) : List Bool := [f.long, f.short, f.edgelost, f.crowded, f.scangap, f.shortscan, f.multi]

theorem flagsByte_getLsbD (f : LetterFlags) (i : Nat) : (flagsByte f).getLsbD i = (flagList f).getD i false := by
  obtain ⟨a, b, c, d, e, g, h⟩ := f
  rcases Nat.lt_or_ge i 8 with small | big
  · interval_cases i <;> revert a b c d e g h <;> decide
  · rw [BitVec.getLsbD_of_ge _ _ big, List.getD_eq_default _ _ (Nat.le_trans (Nat.le_of_ble_eq_true rfl) big)]

theorem flagList_getElem? (f : LetterFlags) {i : Nat} (small : i < 7) : (flagList f)[i]? = some ((flagsByte f).getLsbD i) := by
  have within : i < (flagList f).length := small
  rw [flagsByte_getLsbD, List.getD_eq_getElem?_getD, List.getElem?_eq_getElem within]
  rfl

theorem getLsbD_mod_128 (n i : Nat) (high : 7 ≤ i) : (BitVec.ofNat 8 (n % 128)).getLsbD i = false := by
  rw [BitVec.getLsbD_ofNat, Nat.testBit_lt_two_pow (Nat.lt_of_lt_of_le (Nat.mod_lt n (by decide)) (Nat.pow_le_pow_right (by decide : 0 < 2) high))]
  exact Bool.and_false _

section
variable {set : Byte} (few : ∀ i, 7 ≤ i → set.getLsbD i = false) (f : LetterFlags)
include few

theorem carriesAll_iff : set &&& flagsByte f = set ↔ ∀ i, i < 7 → set.getLsbD i = true → (flagList f)[i]? = some true := by
  refine ⟨fun all i small held => ?_, fun all => BitVec.eq_of_getLsbD_eq fun i _ => ?_⟩
  · have bit := congrArg (fun b : Byte => b.getLsbD i) all
    rw [flagList_getElem? f small]
    simpa [held] using bit
  · rw [BitVec.getLsbD_and]
    cases held : set.getLsbD i with
    | false => rfl
    | true =>
      have small : i < 7 := Nat.lt_of_not_le fun high => Bool.noConfusion (held.symm.trans (few i high))
      have carried := all i small held
      rw [flagList_getElem? f small] at carried
      rw [Option.some.inj carried]
      rfl

theorem carriesNone_iff : set &&& flagsByte f = 0 ↔ ∀ i, i < 7 → set.getLsbD i = true → (flagList f)[i]? = some false := by
  refine ⟨fun none_ i small held => ?_, fun none_ => BitVec.eq_of_getLsbD_eq fun i _ => ?_⟩
  · have bit := congrArg (fun b : Byte => b.getLsbD i) none_
    rw [flagList_getElem? f small]
    simpa [held] using bit
  · have zero : (0 : Byte).getLsbD i = false := BitVec.getLsbD_zero
    rw [BitVec.getLsbD_and, zero]
    cases held : set.getLsbD i with
    | false => rfl
    | true =>
      have small : i < 7 := Nat.lt_of_not_le fun high => Bool.noConfusion (held.symm.trans (few i high))
      have carried := none_ i small held
      rw [flagList_getElem? f small] at carried
      rw [Option.some.inj carried]
      rfl

end

theorem allCorners_iff {n : Nat} (byte : n < 256) : n = 255 ↔ ∀ i, i < 8 → n.testBit i = true := by
  refine ⟨fun e i small => ?_, fun all => ?_⟩
  · subst e
    interval_cases i <;> rfl
  · refine Nat.eq_of_testBit_eq fun i => ?_
    rcases Nat.lt_or_ge i 8 with small | big
    · rw [all i small]
      interval_cases i <;> rfl
    · rw [Nat.testBit_lt_two_pow (Nat.lt_of_lt_of_le byte (Nat.pow_le_pow_right (by decide : 0 < 2) big)),
        Nat.testBit_lt_two_pow (Nat.lt_of_lt_of_le (by decide : 255 < 2 ^ 8) (Nat.pow_le_pow_right (by decide : 0 < 2) big))]

/-- Whether a row's corner set allows a verdict's corner: one without a corner needs all eight. -/
def allowsCorner (corners : Nat) (corner : Option Corner) : Bool :=
  match corner with
  | some c => corners.testBit (cornerNumber c).val
  | none => decide (corners = 255)

theorem matchesRow_eq (l : Letter) (v : Verdict) (r : RoutingRow) : matchesRow l v r
    = (r.enabled && r.verdicts.testBit (verdictCode v.kind) && allowsCorner r.corners v.corner && r.kinds.testBit v.markKind
      && decide (r.required &&& flagsByte l.flags = r.required) && decide (r.forbidden &&& flagsByte l.flags = 0)
      && decide (r.lengthMin ≤ l.length.getD 0 ∧ l.length.getD 0 ≤ r.lengthMax)) := rfl

theorem allowsCorner_iff {corners : Nat} (byte : corners < 256) (corner : Option Corner) : allowsCorner corners corner = true ↔
      (∀ c, corner = some c → corners.testBit (([.ftl, .ftt, .fbl, .fbt, .rtl, .rtt, .rbl, .rbt] : List Corner).idxOf c) = true)
      ∧ (corner = none → ∀ n, n < 8 → corners.testBit n = true) := by
  unfold allowsCorner
  cases corner with
  | none => simp only [decide_eq_true_eq, allCorners_iff byte, reduceCtorEq, IsEmpty.forall_iff, implies_true, true_and, forall_true_left]
  | some c =>
    have number : (cornerNumber c).val = ([.ftl, .ftt, .fbl, .fbt, .rtl, .rtt, .rbl, .rbt] : List Corner).idxOf c := by
      cases c <;> rfl
    dsimp only
    rw [number]
    refine ⟨fun held => ⟨fun c' same => ?_, nofun⟩, fun held => held.1 c rfl⟩
    exact Option.some.inj same ▸ held

/-- A letter matches a row by the row's sets and its length range (R78). -/
theorem matchesRow_iff {l : Letter} {L : Nat} (length : l.length = some L) (v : Verdict) (row : Row) (r : RoutingRow)
    (row_eq : r = routingRow row) : matchesRow l v r = true ↔
      r.enabled = true
      ∧ r.verdicts.testBit (([.faced, .odd, .none, .ambiguous] : List VerdictKind).idxOf v.kind) = true
      ∧ (∀ c, v.corner = some c →
        r.corners.testBit (([.ftl, .ftt, .fbl, .fbt, .rtl, .rtt, .rbl, .rbt] : List Corner).idxOf c) = true)
      ∧ (v.corner = none → ∀ n, n < 8 → r.corners.testBit n = true)
      ∧ r.kinds.testBit v.markKind = true
      ∧ (∀ i, i < 7 → r.required.getLsbD i = true → (flagList l.flags)[i]? = some true)
      ∧ (∀ i, i < 7 → r.forbidden.getLsbD i = true → (flagList l.flags)[i]? = some false)
      ∧ r.lengthMin ≤ L ∧ L ≤ r.lengthMax := by
  have code : verdictCode v.kind = ([.faced, .odd, .none, .ambiguous] : List VerdictKind).idxOf v.kind := by
    cases v.kind <;> rfl
  have byte : r.corners < 256 := by
    rw [row_eq]
    exact Nat.mod_lt _ (by decide)
  have required : ∀ i, 7 ≤ i → r.required.getLsbD i = false := fun i high => by
    rw [row_eq]
    exact getLsbD_mod_128 _ i high
  have forbidden : ∀ i, 7 ≤ i → r.forbidden.getLsbD i = false := fun i high => by
    rw [row_eq]
    exact getLsbD_mod_128 _ i high
  rw [← carriesAll_iff required, ← carriesNone_iff forbidden, ← code, matchesRow_eq, length, Bool.and_eq_true, Bool.and_eq_true,
    Bool.and_eq_true, Bool.and_eq_true, Bool.and_eq_true, Bool.and_eq_true, decide_eq_true_iff, decide_eq_true_iff, decide_eq_true_iff,
    allowsCorner_iff byte, Option.getD_some]
  simp only [and_assoc]

theorem selectRow_eq_some_iff (ts : Tables) (l : Letter) (v : Verdict) (i : Nat) : selectRow ts l v = some i
    ↔ i < 48 ∧ matchesRow l v (rowInForce ts i) = true ∧ ∀ j, j < i → matchesRow l v (rowInForce ts j) = false := by
  rw [selectRow, List.find?_range_eq_some]
  simp [and_left_comm]

theorem selectRow_eq_none_iff (ts : Tables) (l : Letter) (v : Verdict) :
    selectRow ts l v = none ↔ ∀ j, j < 48 → matchesRow l v (rowInForce ts j) = false := by
  rw [selectRow, List.find?_eq_none]
  simp

/-! ## The row request (R132) -/

theorem takesLetter_iff (s : State) (p : Path) (n : Fin 8) : takesLetter s p n = true
    ↔ n = residueStacker p ∨ (n.val < 4 ↔ p = .straight) ∧ 0 < (stackerInForce s n).capacity
        ∧ s.stackers[n].inFlight + s.stackers[n].arrived.toNat < (stackerInForce s n).capacity := by
  have path : stackerPath n = p ↔ (n.val < 4 ↔ p = .straight) := by
    rw [stackerPath]
    cases p <;> by_cases straight : n.val < 4 <;> simp [straight]
  rw [takesLetter, Bool.or_eq_true, Bool.and_eq_true, Bool.and_eq_true, decide_eq_true_iff, decide_eq_true_iff, decide_eq_true_iff,
    decide_eq_true_iff, path, and_assoc]
  rfl

theorem rowRequest_cases (s : State) (p : Path) (primary : Fin 8) (alternate : Option (Fin 8)) :
    (takesLetter s p primary = true → rowRequest s p primary alternate = some primary)
      ∧ (∀ a, alternate = some a → ¬takesLetter s p primary = true → takesLetter s p a = true → rowRequest s p primary alternate = some a)
      ∧ (¬takesLetter s p primary = true → (∀ a, alternate = some a → ¬takesLetter s p a = true) →
        rowRequest s p primary alternate = none) := by
  refine ⟨fun takes => if_pos takes, fun a given no takes => ?_, fun no none_ => ?_⟩
  · rw [rowRequest.eq_def, if_neg no, given]
    exact if_pos takes
  · rw [rowRequest.eq_def, if_neg no]
    cases e : alternate with
    | none => rfl
    | some a => exact if_neg (none_ a e)

/-- Settles O49. -/
theorem gateCheckCases : Obligations.GateCheckCases := by
  refine ⟨fun g r x p => ⟨gateCheck_empty, fun plan j => gateCheck_behind⟩, fun l v L row r length r_eq carried carried_eq => ?_,
    fun ts l v fits fits_eq => ?_, fun s p primary alternate takes takes_eq => ?_⟩
  · subst carried_eq
    exact matchesRow_iff length v row r r_eq
  · have same : fits = fun i => matchesRow l v (rowInForce ts i) := funext fits_eq
    subst same
    exact ⟨selectRow_eq_some_iff ts l v, selectRow_eq_none_iff ts l v⟩
  · have same : ∀ n, takes n ↔ takesLetter s p n = true := fun n => by
      rw [takes_eq, takesLetter_iff]
      cases p <;> rfl
    simp only [same]
    exact rowRequest_cases s p primary alternate

end Sys2Proof.Machine
end

section
/-! SUPPORT. The tests of a booking request (R96 to R100). -/

namespace Sys2Proof.Machine

/-- The head that a corner reaches on a path (R96). -/
def reaches : List (Corner × Path × Fin 4) := [(.ftl, .straight, 0), (.fbt, .straight, 1), (.rbl, .turn, 2), (.rtt, .turn, 3)]

theorem reachedHead_iff (v : Verdict) (p : Path) (h : Fin 4) :
    reachedHead v p = some h ↔ v.kind = .faced ∧ ∃ c, v.corner = some c ∧ (c, p, h) ∈ reaches := by
  unfold reachedHead reaches
  cases v.kind <;> cases v.corner with
  | none => simp
  | some c => cases c <;> cases p <;> simp [eq_comm]

/-- Where a mark's print starts before it is clipped to the letter's edges. -/
def markStart (r : PatternRow) (c : Corner) (extent : Span) : Int :=
  if c = .ftl ∨ c = .rbl then (extent.first : Int) - r.pre else (extent.first : Int) - r.post - r.postmark

@[inherit_doc markStart]
def markStop (r : PatternRow) (c : Corner) (extent : Span) : Int :=
  if c = .ftl ∨ c = .rbl then (extent.last : Int) + r.post + r.postmark else (extent.last : Int) + r.pre

theorem placement_eq {r : PatternRow} {c : Corner} (reached : c = .ftl ∨ c = .fbt ∨ c = .rbl ∨ c = .rtt) (extent : Span) (L : Nat) :
    placement r c extent L
      = (fun start stop : Int => if stop - start < r.least then none else some (start.toNat, (stop - start).toNat))
          (max (markStart r c extent) r.edge) (min (markStop r c extent) ((L : Int) - r.edge)) := by
  unfold markStart markStop placement
  rcases reached with rfl | rfl | rfl | rfl <;> rfl

theorem recoveryPasses_iff (bs : List Booking) (start : Pos) :
    recoveryPasses bs start = true ↔ ∀ b, bs.getLast? = some b → (start - b.occupied).toNat < 8388608 := by
  unfold recoveryPasses atOrPast distance
  cases bs.getLast? with
  | none => simp
  | some b => simp only [decide_eq_true_eq, Option.some.injEq, forall_eq']

/-- The tests of a booking request behind its pattern and its head. -/
theorem requestBooking_iff (s : State) (l : Letter) (v : Verdict) (p : Path) (pat : Fin 8) (a : Accepted) {r : PatternRow}
    (row : r = patternRow (tableRow s.store.tables .pattern pat.val)) :
    requestBooking s l v p pat = some a ↔
      patternValid r = true ∧ ∃ c, reachedHead v p = some a.head ∧ v.corner = some c ∧ s.clock.valid = true
      ∧ ∃ o, placement r c (markExtent l v c) (l.length.getD 0) = some (o, a.length)
      ∧ a.start = addDistance (addDistance l.leading o) (cancelDistance s p)
      ∧ s.heads[a.head].state = .ready ∧ s.heads[a.head].bookings.length < 4
      ∧ recoveryPasses s.heads[a.head].bookings a.start = true
      ∧ atOrPast a.start s.position.belt = true ∧ (geometryOf s.store.tables).lPrint ≤ distance s.position.belt a.start := by
  subst row
  unfold requestBooking
  dsimp only
  rw [Option.ite_none_left_eq_some]
  refine and_congr (by simp) ?_
  cases reachedHead v p with
  | none => simp
  | some h =>
    cases v.corner with
    | none => simp
    | some c =>
      dsimp only
      rw [Option.ite_none_left_eq_some]
      cases placed : placement (patternRow (tableRow s.store.tables .pattern pat.val)) c (markExtent l v c) (l.length.getD 0) with
      | none => simp [placed]
      | some at_ =>
        obtain ⟨o, len⟩ := at_
        dsimp only
        rw [Option.ite_none_left_eq_some, Option.ite_none_left_eq_some, Option.ite_none_left_eq_some, Option.ite_none_left_eq_some]
        constructor
        · rintro ⟨valid, ready, few, recovers, leads, same⟩
          obtain rfl := Option.some.inj same
          rw [Bool.or_eq_true, not_or, decide_eq_true_iff] at leads
          exact ⟨c, rfl, rfl, by simpa using valid, o, placed, rfl, not_not.mp ready, Nat.lt_of_not_le few, by simpa using recovers,
            by simpa using leads.1, Nat.le_of_not_lt leads.2⟩
        · rintro ⟨c', head, same, valid, o', placed', start, ready, few, recovers, ahead, lead⟩
          obtain rfl := Option.some.inj head
          obtain rfl := Option.some.inj same
          obtain ⟨rfl, rfl⟩ := Prod.mk.inj (Option.some.inj (placed.symm.trans placed'))
          rw [← start]
          refine ⟨by rw [valid]; decide, not_not_intro ready, Nat.not_le.mpr few, by rw [recovers]; decide, ?_, rfl⟩
          rw [ahead, Bool.or_eq_true, decide_eq_true_iff]
          exact fun either => either.elim (fun no => Bool.noConfusion no) (Nat.not_lt.mpr lead)

/-- Settles O50. -/
theorem bookingTests : Obligations.BookingTests := by
  refine ⟨fun l v c => ⟨fun x span => ?_, fun ws none_ windows n number => ?_⟩, fun s l v p pat a r row =>
    ⟨fun d formed => ?_, ?_⟩⟩
  · rw [markExtent, span]
  · have same : cornerNumber c = n := Fin.ext (by rw [number]; cases c <;> rfl)
    rw [markExtent, none_, windows, ← same]
  · simp only [cancelDistance, formed, and_self]
  · rw [requestBooking_iff s l v p pat a row]
    have corners : ∀ {c}, (c, p, a.head) ∈ reaches → c = .ftl ∨ c = .fbt ∨ c = .rbl ∨ c = .rtt := by
      intro c mem
      simp only [reaches, List.mem_cons, Prod.mk.injEq, List.not_mem_nil, or_false] at mem
      rcases mem with ⟨e, -⟩ | ⟨e, -⟩ | ⟨e, -⟩ | ⟨e, -⟩ <;> simp [e]
    rw [patternValid, decide_eq_true_iff]
    simp only [reachedHead_iff, recoveryPasses_iff]
    constructor
    · rintro ⟨pattern, c, ⟨faced, c', corner', mem⟩, corner, valid, o, placed, start, ready, few, recovers, ahead, lead⟩
      obtain rfl : c' = c := Option.some.inj (corner'.symm.trans corner)
      rw [placement_eq (corners mem), Option.ite_none_left_eq_some] at placed
      obtain ⟨long, same⟩ := placed
      obtain ⟨offset, length⟩ := Prod.mk.inj (Option.some.inj same)
      have long := Int.not_lt.mp long
      refine ⟨pattern, faced, ⟨c', corner, mem, _, _, rfl, rfl, long, ?_, ?_⟩, valid, ready, few, recovers, of_decide_eq_true ahead, lead⟩
      · rw [← length]
        exact Int.toNat_of_nonneg (le_trans (Int.natCast_nonneg _) long)
      · rw [start, ← offset]
        rfl
    · rintro ⟨pattern, faced, ⟨c, corner, mem, first, last, first_eq, last_eq, long, length, start⟩, valid, ready, few, recovers, ahead, lead⟩
      refine ⟨pattern, c, ⟨faced, c, corner, mem⟩, corner, valid, first.toNat, ?_, start, ready, few, recovers, decide_eq_true ahead, lead⟩
      have first_eq : first = max (markStart r c (markExtent l v c)) r.edge := first_eq
      have last_eq : last = min (markStop r c (markExtent l v c)) (((l.length.getD 0 : Nat) : Int) - r.edge) := last_eq
      rw [placement_eq (corners mem), Option.ite_none_left_eq_some, ← first_eq, ← last_eq, ← length]
      exact ⟨by rw [length]; exact Int.not_lt.mpr long, rfl⟩

end Sys2Proof.Machine
end

section
/-! SUPPORT. TRACK READ: its selection of letters and the summary of one (R39, R191). -/

namespace Sys2Proof.Machine

/-! ## The summary of a letter (R191) -/

theorem verdictCode_eq (k : VerdictKind) : verdictCode k = ([.faced, .odd, .none, .ambiguous] : List VerdictKind).idxOf k := by
  cases k <;> rfl

theorem cornerNumber_eq (c : Corner) :
    (cornerNumber c).val = ([.ftl, .ftt, .fbl, .fbt, .rtl, .rtt, .rbl, .rbt] : List Corner).idxOf c := by
  cases c <;> rfl

/-- The bytes of a summary field by field, FFh in each byte of an absent one. -/
theorem letterData_eq (low : Nat → Nat → List Byte) (bytes : ∀ n w, low n w = (List.range n).map fun i => BitVec.ofNat 8 (w / 256 ^ i))
    (l : Letter) : ∃ flags : Byte,
      (∀ i, i < 7 → ([l.flags.long, l.flags.short, l.flags.edgelost, l.flags.crowded, l.flags.scangap, l.flags.shortscan,
        l.flags.multi] : List Bool)[i]? = some (flags.getLsbD i))
      ∧ letterData l = low 2 l.seq.toNat ++ low 3 l.leading.toNat
        ++ (match l.length with
          | none => [0xFF, 0xFF]
          | some n => low 2 n)
        ++ [BitVec.ofNat 8 (([.opened, .queued, .evaluating, .routed] : List LetterState).idxOf l.state), flags]
        ++ (match l.verdict with
          | none => [0xFF, 0xFF, 0, 0xFF]
          | some v => [BitVec.ofNat 8 (([.faced, .odd, .none, .ambiguous] : List VerdictKind).idxOf v.kind)]
            ++ (match v.corner with
              | none => [0xFF]
              | some c => [BitVec.ofNat 8 (([.ftl, .ftt, .fbl, .fbt, .rtl, .rtt, .rbl, .rbt] : List Corner).idxOf c)])
            ++ low 1 v.markKind
            ++ (match v.signature with
              | none => [0xFF]
              | some i => low 1 i))
        ++ (match l.disposition with
          | none => [0xFF, 0xFF, 0xFF, 0xFF]
          | some d => [if d.path = .straight then 0 else 1, BitVec.ofNat 8 d.stacker.val]
            ++ (match d.row with
              | none => [0xFF]
              | some i => low 1 i)
            ++ (match d.cause with
              | none => [0xFF]
              | some c => [BitVec.ofNat 8
                  (([.late, .noroom, .unrouted, .forced, .noprint, .full] : List ResidueCause).idxOf c)]))
        ++ (match l.print with
          | none => List.replicate 8 0xFF
          | some x => [BitVec.ofNat 8 x.head.val,
              BitVec.ofNat 8 (([.planned, .done, .failed] : List PrintStatus).idxOf x.status)]
            ++ low 3 x.start.toNat ++ low 2 x.length ++ [BitVec.ofNat 8 x.pattern.val]) := by
  obtain rfl : low = natBytes := funext fun n => funext fun w => (bytes n w).trans (natBytes_eq_map n w).symm
  refine ⟨flagsByte l.flags, fun i small => flagList_getElem? l.flags small, ?_⟩
  refine congrArg₂ _ (congrArg₂ _ (congrArg₂ _ (congrArg₂ _ (congrArg₂ _ rfl ?length) ?state) ?verdict) ?disposition) ?print
  case length => cases l.length <;> rfl
  case state => cases l.state <;> rfl
  case verdict =>
    cases l.verdict with
    | none => rfl
    | some v =>
      dsimp only
      rw [verdictCode_eq]
      cases v.corner with
      | none => cases v.signature <;> rfl
      | some c =>
        dsimp only [Option.map_some, Option.getD_some]
        rw [cornerNumber_eq]
        cases v.signature <;> rfl
  case disposition =>
    cases l.disposition with
    | none => rfl
    | some d =>
      dsimp only
      have path : pathCode d.path = if d.path = .straight then 0 else 1 := by cases d.path <;> rfl
      rw [path]
      cases d.row with
      | none =>
        cases d.cause with
        | none => rfl
        | some c => cases c <;> rfl
      | some i =>
        cases d.cause with
        | none => rfl
        | some c => cases c <;> rfl
  case print =>
    cases l.print with
    | none => rfl
    | some x =>
      have status : printStatusCode x.status = BitVec.ofNat 8 (([.planned, .done, .failed] : List PrintStatus).idxOf x.status) := by
        cases x.status <;> rfl
      dsimp only
      rw [status]
      rfl

/-! ## The selection of letters (R39) -/

theorem dropWhile_append {α : Type} {p : α → Bool} {xs ys : List α} (skips : ∀ x ∈ xs, p x = true)
    (stops : ∀ y, ys.head? = some y → p y = false) : (xs ++ ys).dropWhile p = ys := by
  induction xs with
  | nil =>
    cases ys with
    | nil => rfl
    | cons y ys => exact List.dropWhile_cons_of_neg (by rw [stops y rfl]; decide)
  | cons x xs ih =>
    rw [List.cons_append, List.dropWhile_cons_of_pos (skips x List.mem_cons_self)]
    exact ih fun y mem => skips y (List.mem_cons_of_mem _ mem)

theorem selectionFrom_eq {start : Option Seq} {skipped selected : List Letter}
    (first : match start with
      | none => skipped = []
      | some q => (∀ l ∈ skipped, 32768 ≤ (l.seq - q).toNat) ∧ ∀ l, selected.head? = some l → (l.seq - q).toNat < 32768) :
    selectionFrom (skipped ++ selected) start = selected := by
  cases start with
  | none =>
    obtain rfl : skipped = [] := first
    rfl
  | some q =>
    obtain ⟨skips, stops⟩ := first
    refine dropWhile_append (fun l mem => ?_) fun l head => ?_
    · rw [decide_eq_false (Nat.not_lt.mpr (skips l mem))]
      rfl
    · rw [decide_eq_true (stops l head)]
      rfl

theorem serve_trackRead (start : Option Seq) (s : State) : serve 0x15 (trackReadArgs start) s = serveTrackRead start s := by
  cases start with
  | none => rfl
  | some q =>
    have args : trackReadArgs (some q) = [BitVec.ofNat 8 q.toNat, BitVec.ofNat 8 (q.toNat / 256)] := rfl
    have read : serve 0x15 [BitVec.ofNat 8 q.toNat, BitVec.ofNat 8 (q.toNat / 256)] s
        = serveTrackRead (some (le16 (BitVec.ofNat 8 q.toNat) (BitVec.ofNat 8 (q.toNat / 256)))) s := rfl
    rw [args, read, le16_natBytes]

/-- Settles O53. -/
theorem trackReadAnswers : Obligations.TrackReadAnswers := by
  refine ⟨fun dest src start s skipped selected letters first data data_eq atOnce => ?_, letterData_eq⟩
  have fits : (messagePayload (.ask 0x15 (trackReadArgs start))).length ≤ maxPayload :=
    askPayload_fits _ (by cases start <;> simp [trackReadArgs, natBytes_length, maxArgs])
  have selection : selectionFrom s.track.letters start = selected := by
    rw [letters]
    exact selectionFrom_eq first
  refine congrArg Host.Outcome.next (deliver_ask_whole (t := s.withTrack { s.track with unmatched := 0 }) atOnce fits
    (by simp [isLaneReset]) (fun n => ?_) atOnce.2.2.1)
  rw [serve_trackRead, serveTrackRead, setReserved_frame s n .track (by decide), selection, data_eq]
  rfl

end Sys2Proof.Machine
end

section
/-! SUPPORT. Obligation O51: what a notice, a count and a lamp's recomputation do to a SENDING output, and the late disposition
(spec sections 5.6 and 8.5). -/
namespace Sys2Proof.Machine

/-- The part of the output that no notice touches while a frame is being sent. -/
def outputKept (s t : State) : Prop :=
  t.ring.sending = s.ring.sending ∧ t.ring.forward = s.ring.forward ∧ t.ring.orders = s.ring.orders ∧ t.ring.waiting = s.ring.waiting

theorem outputKept.ofRing {s t : State} (ring : t.ring = s.ring) : outputKept s t := by rw [outputKept, ring]; exact ⟨rfl, rfl, rfl, rfl⟩

theorem outputKept.trans {s t u : State} (h : outputKept s t) (k : outputKept t u) : outputKept s u :=
  ⟨k.1.trans h.1, k.2.1.trans h.2.1, k.2.2.1.trans h.2.2.1, k.2.2.2.trans h.2.2.2⟩

theorem outputKept.isSome {s t : State} (h : outputKept s t) (busy : s.ring.sending.isSome = true) : t.ring.sending.isSome = true := by
  rw [h.1]; exact busy

section
variable {s : State} (busy : s.ring.sending.isSome = true)
include busy

theorem sendNotice_outputKept (a : Reply) : outputKept s (sendNotice a s) := by
  rw [sendNotice]
  split
  · exact ⟨rfl, rfl, rfl, rfl⟩
  · rw [joinAnswer_sending busy]
    exact ⟨rfl, rfl, rfl, rfl⟩

theorem setFlag_outputKept (f : ConditionFlag) : outputKept s (setFlag f s) := by
  rw [setFlag]
  split
  · exact .ofRing rfl
  · split
    · exact .ofRing rfl
    · exact (outputKept.ofRing (t := markFlag f s) rfl).trans (sendNotice_outputKept (s := markFlag f s) busy _)

theorem count_outputKept (i : Fin 64) : outputKept s (count i s) := by
  rw [count]
  have tally : outputKept s (s.withTally (countLive s.tally i)) := .ofRing rfl
  split
  · exact tally.trans (setFlag_outputKept (tally.isSome busy) _)
  · exact tally

theorem enterFull_outputKept (n : Fin 8) : outputKept s (enterFull n s) := by
  have flagged := fun f => setFlag_outputKept busy f
  rw [enterFull]
  split
  · exact (flagged _).trans (sendNotice_outputKept ((flagged _).isSome busy) _)
  · exact flagged _

theorem issueOrder_sends (p : WaitPlace) (o : OrderFrame) : (issueOrder p o s).ring.sending.isSome = true := by
  rw [issueOrder]
  split
  · rw [joinOrder_sending busy]; exact busy
  · exact busy

end

/-- A recomputation that changes the lamp issues its order and, where the output is then SENDING, otherwise leaves the output. -/
theorem recomputeLamp_issues {s : State} {n : Fin 8} (other : lampConditionOf s n ≠ s.stackers[n].lamp)
    (sends : (issueOrder (.lamp n) (lampOrder s n (lampConditionOf s n)) s).ring.sending.isSome = true) :
    outputKept (issueOrder (.lamp n) (lampOrder s n (lampConditionOf s n)) s) (recomputeLamp n s) := by
  have placed := ((alike.ofFrame (modifyStacker_frame s n (fun k => { k with lamp := lampConditionOf s n }))).issueOrder
    (.lamp n) (lampOrder s n (lampConditionOf s n))).2.1
  rw [recomputeLamp_changes other]
  refine (outputKept.ofRing placed).trans ?_
  split
  · exact enterFull_outputKept (by rw [placed]; exact sends) n
  · exact .ofRing rfl

theorem recomputeLamp_stands {s : State} {n : Fin 8} (same : lampConditionOf s n = s.stackers[n].lamp) : recomputeLamp n s = s :=
  if_pos same

theorem takePlace_holds (p : WaitPlace) (o : OrderFrame) (ws : List Waiting) : ⟨p, o⟩ ∈ takePlace p o ws := by
  induction ws with
  | nil => exact List.mem_singleton.mpr rfl
  | cons w rest ih =>
    rw [takePlace]
    split
    · exact List.mem_cons_self
    · exact List.mem_cons_of_mem _ ih

/-! The late disposition. -/

theorem arrivalWindow_eq {s : State} {ds : Vector StackerDistance 8} (formed : s.position.stackers = some ds) (n : Fin 8) (x : Pos) :
    arrivalWindow s n x
      = ⟨x + BitVec.ofNat 24 ds[n].arrival - BitVec.ofNat 24 (stackerInForce s n).tolerance,
        x + BitVec.ofNat 24 ds[n].arrival + BitVec.ofNat 24 (stackerInForce s n).tolerance⟩ := by
  simp only [arrivalWindow, arrivalDistance, formed, addDistance, subDistance]

theorem routingDecision_noRoom {s : State} (few : 14 ≤ s.ring.orders.length) (l : Letter) (v : Verdict) :
    routingDecision l v s = lateDisposition l .noroom s := by
  have short : freeOrderPlaces s < placesForDecision := by
    rw [freeOrderPlaces, orderCapacity, placesForDecision]
    omega
  rw [routingDecision, if_pos short]

theorem residueStacker_eq (p : Path) : residueStacker p = (match p with | .straight => 0 | .turn => 4) := rfl

/-- The late disposition without its notices: its writes to the letter, the stacker and the plan, in the model's order. -/
theorem lateDisposition_eq (l : Letter) (cause : ResidueCause) (s : State) :
    lateDisposition l cause s = setFlag .late (count tallyLate (appendPlan l (pathInEffect s.routing)
      (recomputeLamp (residueStacker (pathInEffect s.routing))
        (writeDisposition l.seq ⟨pathInEffect s.routing, residueStacker (pathInEffect s.routing), none, some cause⟩ none
          (arrivalWindow (reserve (residueStacker (pathInEffect s.routing)) s) (residueStacker (pathInEffect s.routing)) l.leading)
          (reserve (residueStacker (pathInEffect s.routing)) s))))) := rfl

theorem arrivalWindow_congr {s t : State} (store : t.store = s.store) (position : t.position = s.position) (n : Fin 8) (x : Pos) :
    arrivalWindow t n x = arrivalWindow s n x := by
  unfold arrivalWindow arrivalDistance stackerInForce
  rw [store, position]

section
variable (l : Letter) (cause : ResidueCause) (s : State)

theorem lateDisposition_track :
    (lateDisposition l cause s).track = { s.track with letters := s.track.letters.map fun r => if r.seq = l.seq then
      { r with
        disposition := some ⟨pathInEffect s.routing, residueStacker (pathInEffect s.routing), none, some cause⟩, print := none
        window := some (arrivalWindow s (residueStacker (pathInEffect s.routing)) l.leading), state := .routed }
      else r } := by
  generalize named : residueStacker (pathInEffect s.routing) = n
  rw [lateDisposition_eq, named, setFlag_frame _ _ .track (by decide), count_frame _ _ .track (by decide),
    appendPlan_frame _ _ _ .track (by decide), recomputeLamp_frame _ _ .track (by decide),
    arrivalWindow_congr (s := s) (reserve_frame s n .store (by decide)) (reserve_frame s n .position (by decide))]
  rfl

/-- The flags and the ring port change, and the stackers and the tally unit, as by the recomputation, the count and the flag alone. -/
theorem lateDisposition_parts {u : State} (reserved : u = reserve (residueStacker (pathInEffect s.routing)) s) :
    (lateDisposition l cause s).stackers = (recomputeLamp (residueStacker (pathInEffect s.routing)) u).stackers
      ∧ (lateDisposition l cause s).tally
        = countLive s.tally tallyLate
      ∧ alike (setFlag .late (count tallyLate (recomputeLamp (residueStacker (pathInEffect s.routing)) u))) (lateDisposition l cause s) := by
  rw [lateDisposition_eq, ← reserved]
  generalize residueStacker (pathInEffect s.routing) = n at *
  generalize (⟨pathInEffect s.routing, n, none, some cause⟩ : Disposition) = d
  generalize arrivalWindow u n l.leading = w
  have written := writeDisposition_frame u l.seq d none w
  have planned := appendPlan_frame (recomputeLamp n (writeDisposition l.seq d none w u)) l (pathInEffect s.routing)
  have tally : (appendPlan l (pathInEffect s.routing) (recomputeLamp n (writeDisposition l.seq d none w u))).tally = u.tally := by
    rw [planned .tally (by decide), recomputeLamp_frame _ _ .tally (by decide), written .tally (by decide)]
  refine ⟨?_, ?_, ?_⟩
  · rw [setFlag_frame _ _ .stackers (by decide), count_frame _ _ .stackers (by decide), planned .stackers (by decide)]
    exact recomputeLamp_stackers_congr (written .store (by decide)) (written .stackers (by decide)) n
  · rw [setFlag_frame _ _ .tally (by decide), count_tally, tally, reserved, reserve_frame s n .tally (by decide)]
  · refine (alike.count (alike.trans (alike.recomputeLamp (.ofFrame written) ?_) (.ofFrame planned)) ?_).setFlag .late
    · rw [written .stackers (by decide)]
    · rw [tally, recomputeLamp_frame _ _ .tally (by decide)]

end

theorem reserve_stackers_get (n j : Fin 8) (s : State) :
    (reserve n s).stackers[j] = if j = n then { s.stackers[j] with inFlight := s.stackers[j].inFlight + 1 } else s.stackers[j] :=
  updateAt_get s.stackers n j _

/-- What the late disposition does behind a SENDING output: the recomputation's LAMP order, if any, is all that it queues there. -/
theorem lateDisposition_sending {l : Letter} {cause : ResidueCause} {s u : State} {n : Fin 8} (busy : s.ring.sending.isSome = true)
    (named : n = residueStacker (pathInEffect s.routing)) (reserved : u = reserve n s) :
    outputKept (recomputeLamp n u) (lateDisposition l cause s) := by
  subst named
  have ring := (lateDisposition_parts l cause s reserved).2.2.2.1
  have busy' : u.ring.sending.isSome = true := by rw [reserved]; exact busy
  have lamp : (recomputeLamp (residueStacker (pathInEffect s.routing)) u).ring.sending.isSome = true := by
    by_cases same : lampConditionOf u (residueStacker (pathInEffect s.routing)) = u.stackers[residueStacker (pathInEffect s.routing)].lamp
    · rw [recomputeLamp_stands same]; exact busy'
    · exact (recomputeLamp_issues same (issueOrder_sends busy' _ _)).isSome (issueOrder_sends busy' _ _)
  have counted := count_outputKept lamp tallyLate
  exact (counted.trans (setFlag_outputKept (counted.isSome lamp) .late)).trans (.ofRing ring)

/-- Settles O51: the late disposition writes the letter, the plan, one stacker and one tally, and its notices follow in order. -/
theorem lateDispositionGiven : Obligations.LateDispositionGiven := by
  unfold Obligations.LateDispositionGiven
  refine ⟨fun s ds n x formed => arrivalWindow_eq formed n x, fun l v cause s => ⟨fun few => routingDecision_noRoom few l v, ?_⟩⟩
  intro t p n done path stacker
  have stacker' : n = residueStacker (pathInEffect s.routing) := by rw [← path, residueStacker_eq]; exact stacker
  obtain ⟨stackers, tally, signals⟩ := lateDisposition_parts l cause s rfl
  have track := lateDisposition_track l cause s
  have routing := lateDisposition_routing l cause s
  have frame := lateDisposition_frame s l cause
  have late : flagSet (lateDisposition l cause s) .late = true := setFlag_sets _ _
  have output := fun busy => lateDisposition_sending (l := l) (cause := cause) busy stacker' rfl
  rw [← stacker'] at stackers signals track
  rw [← path] at track routing
  rw [← done] at *
  clear done stacker stacker'
  have shown : ∀ j : Fin 8, t.stackers[j] = if j = n then { (reserve n s).stackers[j] with lamp := lampConditionOf (reserve n s) n }
      else (reserve n s).stackers[j] := fun j => by rw [stackers, recomputeLamp_stackers]
  have own : t.stackers[n] = { s.stackers[n] with inFlight := s.stackers[n].inFlight + 1, lamp := lampConditionOf (reserve n s) n } := by
    rw [shown, if_pos rfl, reserve_stackers_get, if_pos rfl]
  have lampHeld : (reserve n s).stackers[n].lamp = s.stackers[n].lamp := by rw [reserve_stackers_get, if_pos rfl]
  refine ⟨track, ⟨planEntry s l p, ?_, rfl, rfl, rfl, rfl, rfl, rfl⟩, ?_, ?_, ?_, ?_, ?_, ?_, late, ?_, ?_, frame⟩
  · rw [routing]; rfl
  · rw [routing]
  · rw [own]
  · rw [own]
  · rw [own]
    refine (lampConditionOf_congr (s := reserve n s) ?_ ?_ ?_).symm
    · rw [frame .store (by decide), reserve_frame s n .store (by decide)]
    · rw [own, reserve_stackers_get, if_pos rfl]
    · rw [own, reserve_stackers_get, if_pos rfl]
  · intro j other
    rw [shown, if_neg other, reserve_stackers_get, if_neg other]
  · rw [tally, countLive_get, if_pos rfl]
  · rintro u w rfl rfl
    refine ⟨?_, ?_, signals.1, signals.2.1⟩
    · rw [setFlag_frame _ _ .stackers (by decide), count_frame _ _ .stackers (by decide)]
      exact stackers
    · rw [setFlag_frame _ _ .tally (by decide), count_tally, recomputeLamp_frame _ _ .tally (by decide)]
      exact tally
  · rintro busy lamp rfl same rfl
    obtain ⟨sending, forward, orders, waiting⟩ := output busy
    have order : lampOrder (reserve n s) n (lampConditionOf (reserve n s) n) = lampOrder s n t.stackers[n].lamp := by
      rw [own]; exact lampOrder_congr (reserve_frame s n .store (by decide)) n _
    rw [sending, forward, orders, waiting]
    by_cases stands : lampConditionOf (reserve n s) n = (reserve n s).stackers[n].lamp
    · have held : t.stackers[n].lamp = s.stackers[n].lamp := by rw [own]; exact stands.trans lampHeld
      rw [recomputeLamp_stands stands]
      exact ⟨rfl, rfl, fun _ => ⟨rfl, rfl⟩, fun not => absurd held not, fun not => absurd held not⟩
    · have changed : t.stackers[n].lamp ≠ s.stackers[n].lamp := by rw [own]; exact fun h => stands (h.trans lampHeld.symm)
      obtain ⟨sending, forward, orders, waiting⟩ := recomputeLamp_issues (s := reserve n s) stands (issueOrder_sends (s := reserve n s) busy _ _)
      rw [sending, forward, orders, waiting, order]
      by_cases room : s.ring.orders.length < 16
      · rw [issueOrder_room (s := reserve n s) room, joinOrder_sending (s := reserve n s) busy]
        exact ⟨rfl, rfl, fun same => absurd same changed, fun _ _ => ⟨rfl, rfl⟩, fun _ full => absurd room (Nat.not_lt.mpr full)⟩
      · rw [issueOrder_full (s := reserve n s) (Nat.not_lt.mp room)]
        exact ⟨rfl, rfl, fun same => absurd same changed, fun _ few => absurd few room, fun _ _ => ⟨rfl, _, takePlace_holds _ _ _, rfl⟩⟩

end Sys2Proof.Machine
end

section
/-! SUPPORT. Obligation O52, first part: the four phases of a routing decision, each as what it finds in the state that the decision
begins in and as the counts and flags that it notes (spec sections 5.2 to 5.5, 6.3 and 8.3). -/
namespace Sys2Proof.Machine

/-! ## What a phase notes: at most one count, and then at most one flag -/

def raised (f : Option ConditionFlag) (s : State) : State :=
  match f with
  | none => s
  | some f => setFlag f s

def noted (i : Option (Fin 64)) (f : Option ConditionFlag) (s : State) : State :=
  raised f (match i with
    | none => s
    | some i => count i s)

section
variable (i : Option (Fin 64)) (f : Option ConditionFlag) (s : State)

theorem raised_frame : changesOnly [.cond, .ring] s (raised f s) := by
  cases f with
  | none => exact .refl _ s
  | some f => exact setFlag_frame s f

theorem noted_frame : changesOnly [.tally, .cond, .ring] s (noted i f s) := by
  cases i with
  | none => exact (raised_frame f s).mono rfl
  | some i => exact (raised_frame f _).chain ((count_frame s i).mono rfl) rfl

theorem noted_live (j : Fin 64) :
    (noted i f s).tally.live[j] = s.tally.live[j] + BitVec.ofNat 32 (if i = some j then 1 else 0) := by
  unfold noted
  rw [raised_frame _ _ .tally (by decide)]
  cases i with
  | none => simp
  | some i =>
    show (count i s).tally.live[j] = _
    rw [count_tally, countLive_get]
    by_cases h : j = i
    · rw [if_pos h, if_pos (congrArg some h.symm)]
      rfl
    · rw [if_neg h, if_neg fun e => h (Option.some.inj e).symm]
      exact (BitVec.add_zero _).symm

theorem raised_signals : Signals s (raised f s) := by
  cases f with
  | none => exact .refl s
  | some f => exact setFlag_signals s f

theorem noted_signals : Signals s (noted i f s) := by
  cases i with
  | none => exact raised_signals f s
  | some i => exact (count_signals s i).trans (raised_signals f _)

theorem noted_orders_length_le : (noted i f s).ring.orders.length ≤ s.ring.orders.length := by
  have flagged : ∀ t, (raised f t).ring.orders.length ≤ t.ring.orders.length := by
    cases f with
    | none => exact fun _ => Nat.le_refl _
    | some f => exact fun t => setFlag_orders_length_le t f
  cases i with
  | none => exact flagged s
  | some i => exact (flagged _).trans (count_orders_length_le s i)

end

theorem noted_outputKept {s : State} (busy : s.ring.sending.isSome = true) (i : Option (Fin 64)) (f : Option ConditionFlag) :
    outputKept s (noted i f s) := by
  have flagged : ∀ t, t.ring.sending.isSome = true → outputKept t (raised f t) := by
    cases f with
    | none => exact fun t _ => .ofRing rfl
    | some f => exact fun t sends => setFlag_outputKept sends f
  cases i with
  | none => exact flagged s busy
  | some i =>
    have counted := count_outputKept busy i
    exact counted.trans (flagged _ (counted.isSome busy))

/-- A counter that is not full is counted without TALLYWRAP, so that only the flag reaches the flags and the ring port. -/
theorem alike.noted {s t : State} (h : alike s t) {i : Option (Fin 64)}
    (below : ∀ j : Fin 64, t.tally.live[j].toNat < 4294967295) (f : Option ConditionFlag) :
    alike (Machine.raised f s) (Machine.noted i f t) := by
  have flagged : ∀ u, alike s u → alike (Machine.raised f s) (Machine.raised f u) := by
    cases f with
    | none => exact fun u same => same
    | some f => exact fun u same => same.setFlag f
  cases i with
  | none => exact flagged t h
  | some i => exact flagged _ (h.count_below (below i))

theorem noted_sets (i : Option (Fin 64)) (f : ConditionFlag) (s : State) : flagSet (noted i (some f) s) f = true := setFlag_sets _ f

/-! ## What the phases read -/

theorem requestBooking_congr {s t : State} (store : t.store = s.store) (clock : t.clock = s.clock) (heads : t.heads = s.heads)
    (position : t.position = s.position) (l : Letter) (v : Verdict) (p : Path) (pat : Fin 8) :
    requestBooking t l v p pat = requestBooking s l v p pat := by
  have cancel : cancelDistance t p = cancelDistance s p := by rw [cancelDistance.eq_def, cancelDistance.eq_def, position]
  unfold requestBooking
  rw [store, clock, heads, cancel, position, geometry, geometry, store]

theorem takesLetter_congr {s t : State} (store : t.store = s.store) (stackers : t.stackers = s.stackers) (p : Path) (n : Fin 8) :
    takesLetter t p n = takesLetter s p n := by
  unfold takesLetter committed stackerInForce
  rw [store, stackers]

theorem rowRequest_congr {s t : State} (store : t.store = s.store) (stackers : t.stackers = s.stackers) (p : Path) (n : Fin 8)
    (a : Option (Fin 8)) : rowRequest t p n a = rowRequest s p n a := by
  unfold rowRequest
  simp only [takesLetter_congr store stackers]

theorem bookingOf_congr {s t : State} (store : t.store = s.store) (q : Seq) (a : Accepted) : bookingOf t q a = bookingOf s q a := by
  unfold bookingOf occupancyEnd geometry
  rw [store]

/-! ## Row selection -/

def rowNote (ts : Tables) (row : Option Nat) : Option (Fin 64) :=
  match row with
  | none => some tallyUnrouted
  | some i => (rowInForce ts i).tally.map tallyOfRow

theorem rowSelection_state (l : Letter) (v : Verdict) (s : State) :
    (rowSelection l v s).2 = noted (rowNote s.store.tables (selectRow s.store.tables l v)) none s := by
  unfold rowSelection
  cases selectRow s.store.tables l v with
  | none => rfl
  | some i =>
    show (match (rowInForce s.store.tables i).tally with
      | none => s
      | some t => count (tallyOfRow t) s) = noted ((rowInForce s.store.tables i).tally.map tallyOfRow) none s
    cases (rowInForce s.store.tables i).tally <;> rfl

theorem rowSelection_row (l : Letter) (v : Verdict) (s : State) : (rowSelection l v s).1.row = selectRow s.store.tables l v := by
  unfold rowSelection
  split <;> next e => exact e.symm

/-! ## The gate phase -/

theorem gatePhase_congr {s t : State} (store : t.store = s.store) (routing : t.routing = s.routing) (l : Letter) (k : Selection) :
    (gatePhase l k t).1 = (gatePhase l k s).1 := by
  unfold gatePhase geometry
  rw [store, routing]
  split <;> rfl

def forcedNote (forced : Bool) : Option (Fin 64) := if forced then some tallyForced else none
def forcedFlag (forced : Bool) : Option ConditionFlag := if forced then some .forced else none

theorem gatePhase_state (l : Letter) (k : Selection) (s : State) :
    (gatePhase l k s).2 = noted (forcedNote (gatePhase l k s).1.forced) (forcedFlag (gatePhase l k s).1.forced) s := by
  unfold gatePhase
  split <;> rfl

/-! ## The print phase -/

theorem printPhase_congr {s t : State} (store : t.store = s.store) (clock : t.clock = s.clock) (heads : t.heads = s.heads)
    (position : t.position = s.position) (l : Letter) (v : Verdict) (g : Gated) :
    (printPhase l v g t).1 = (printPhase l v g s).1 ∧ (printPhase l v g t).2.1 = (printPhase l v g s).2.1 := by
  unfold printPhase
  cases g.pattern with
  | none => exact ⟨rfl, rfl⟩
  | some pat =>
    dsimp only
    rw [requestBooking_congr store clock heads position]
    cases requestBooking s l v g.path pat <;> exact ⟨rfl, rfl⟩

/-- A request was made, and refused. -/
def printRefused (l : Letter) (v : Verdict) (g : Gated) (s : State) : Bool := g.pattern.isSome && (printPhase l v g s).1.isNone
def refusedNote (refused : Bool) : Option (Fin 64) := if refused then some tallyNoprint else none
def refusedFlag (refused : Bool) : Option ConditionFlag := if refused then some .noprint else none

def booked (q : Seq) (pr : Option (Accepted × Fin 8)) (s : State) : State :=
  match pr with
  | none => s
  | some x => addBooking x.1.head (bookingOf s q x.1) s

section
variable {l : Letter} {v : Verdict} {g : Gated} {s : State}

theorem printPhase_silent (silent : g.pattern = none) : printPhase l v g s = (none, g.cause, s) := by rw [printPhase, silent]

theorem printPhase_refused {pat : Fin 8} (wanted : g.pattern = some pat) (refused : requestBooking s l v g.path pat = none) :
    printPhase l v g s = (none, recordCause g.cause .noprint, setFlag .noprint (count tallyNoprint s)) := by
  unfold printPhase
  rw [wanted]
  dsimp only
  rw [refused]

theorem printPhase_accepted {pat : Fin 8} {a : Accepted} (wanted : g.pattern = some pat)
    (accepted : requestBooking s l v g.path pat = some a) :
    printPhase l v g s = (some (a, pat), g.cause, addBooking a.head (bookingOf s l.seq a) s) := by
  unfold printPhase
  rw [wanted]
  dsimp only
  rw [accepted]

/-- What the phase leaves, by its three cases: no request, a refused one, an accepted one. -/
theorem printPhase_eq :
    (printPhase l v g s).1 = (g.pattern.bind fun pat => (requestBooking s l v g.path pat).map (·, pat))
      ∧ (printPhase l v g s).2.1 = (if printRefused l v g s then recordCause g.cause .noprint else g.cause)
      ∧ (printPhase l v g s).2.2 = booked l.seq (printPhase l v g s).1
        (noted (refusedNote (printRefused l v g s)) (refusedFlag (printRefused l v g s)) s) := by
  unfold printRefused
  cases wanted : g.pattern with
  | none =>
    rw [printPhase_silent wanted]
    exact ⟨rfl, rfl, rfl⟩
  | some pat =>
    rw [Option.bind_some]
    cases request : requestBooking s l v g.path pat with
    | none =>
      rw [printPhase_refused wanted request]
      exact ⟨rfl, rfl, rfl⟩
    | some a =>
      rw [printPhase_accepted wanted request]
      exact ⟨rfl, rfl, rfl⟩

end

theorem booked_frame (q : Seq) (pr : Option (Accepted × Fin 8)) (s : State) : changesOnly [.heads] s (booked q pr s) := by
  cases pr with
  | none => exact .refl _ s
  | some x => exact modifyHead_frame s _ _

theorem booked_heads {s t : State} (store : t.store = s.store) (heads : t.heads = s.heads) (q : Seq) (pr : Option (Accepted × Fin 8)) :
    (booked q pr t).heads = (booked q pr s).heads := by
  cases pr with
  | none => exact heads
  | some x =>
    show (addBooking x.1.head (bookingOf t q x.1) t).heads = (addBooking x.1.head (bookingOf s q x.1) s).heads
    rw [bookingOf_congr store, addBooking, addBooking, modifyHead, modifyHead, State.withHeads_heads, State.withHeads_heads, heads]

/-! ## The stacker phase -/

/-- The stacker phase found no stacker that takes the letter. -/
def foundFull (k : Selection) (p : Path) (c : Option ResidueCause) (s : State) : Bool :=
  c.isNone && (rowRequest s p k.primary k.alternate).isNone
def fullNote (full : Bool) : Option (Fin 64) := if full then some tallyFulldivert else none

theorem stackerPhase_eq (k : Selection) (p : Path) (c : Option ResidueCause) (s : State) :
    stackerPhase k p c s =
      (if c.isSome || foundFull k p c s then residueStacker p else (rowRequest s p k.primary k.alternate).getD (residueStacker p),
        if foundFull k p c s then some .full else c,
        reserve (if c.isSome || foundFull k p c s then residueStacker p
          else (rowRequest s p k.primary k.alternate).getD (residueStacker p)) (noted (fullNote (foundFull k p c s)) none s)) := by
  unfold stackerPhase foundFull
  cases c with
  | some c => rfl
  | none =>
    cases rowRequest s p k.primary k.alternate with
    | none => simp only [Option.isSome_none, Option.isNone_none, Bool.and_self, Bool.or_true, if_true, fullNote, noted, raised]
    | some n =>
      simp only [Option.isSome_none, Option.isNone_none, Option.isNone_some, Bool.and_false, Bool.or_false, Bool.false_eq_true,
        if_false, fullNote, noted, raised, Option.getD_some]

end Sys2Proof.Machine
end

section
/-! SUPPORT. Obligation O52, second part: a decision as a value of the state that it begins in, and what its phases leave for the
commit (spec section 5.5). -/
namespace Sys2Proof.Machine

/-- What the four phases decide. -/
structure Decided where
  row : Selection
  gate : Gated
  print : Option (Accepted × Fin 8)
  refused : Bool
  full : Bool
  stacker : Fin 8
  cause : Option ResidueCause

/-- The phases' results, all read from the state that the decision begins in. -/
def decided (l : Letter) (v : Verdict) (s : State) : Decided :=
  let row := (rowSelection l v s).1
  let gate := (gatePhase l row s).1
  let print := printPhase l v gate s
  let stacker := stackerPhase row gate.path print.2.1 s
  ⟨row, gate, print.1, printRefused l v gate s, foundFull row gate.path print.2.1 s, stacker.1, stacker.2.1⟩

/-- What the phases leave behind: each phase's note, the print's booking, and the reservation at the stacker. -/
def Decided.noting (d : Decided) (l : Letter) (s : State) : State :=
  reserve d.stacker (noted (fullNote d.full) none (booked l.seq d.print (noted (refusedNote d.refused) (refusedFlag d.refused)
    (noted (forcedNote d.gate.forced) (forcedFlag d.gate.forced) (noted (rowNote s.store.tables d.row.row) none s)))))

/-! ## The decision's values -/

/-- The cause that stands before the stacker phase. -/
def Decided.causeBefore (d : Decided) : Option ResidueCause := if d.refused then recordCause d.gate.cause .noprint else d.gate.cause

section
variable {l : Letter} {v : Verdict} {s : State} {d : Decided} (made : d = decided l v s)
include made

theorem decided_selection : d.row = (rowSelection l v s).1 := by rw [made]; rfl

theorem decided_row : d.row.row = selectRow s.store.tables l v := by rw [decided_selection made]; exact rowSelection_row l v s

theorem decided_gate : d.gate = (gatePhase l d.row s).1 := by rw [made]; rfl

theorem decided_printPhase : d.print = (printPhase l v d.gate s).1 := by rw [made]; rfl

theorem decided_print : d.print = d.gate.pattern.bind fun pat => (requestBooking s l v d.gate.path pat).map (·, pat) :=
  (decided_printPhase made).trans printPhase_eq.1

theorem decided_refused : d.refused = printRefused l v d.gate s := by rw [made]; rfl

theorem decided_causeBefore : (printPhase l v d.gate s).2.1 = d.causeBefore := by
  rw [printPhase_eq.2.1, Decided.causeBefore, decided_refused made]

theorem decided_full : d.full = foundFull d.row d.gate.path d.causeBefore s := by
  rw [← decided_causeBefore made, made]; rfl

theorem decided_stacker : d.stacker = if d.causeBefore.isSome || d.full then residueStacker d.gate.path
    else (rowRequest s d.gate.path d.row.primary d.row.alternate).getD (residueStacker d.gate.path) := by
  have chosen : d.stacker = (stackerPhase d.row d.gate.path (printPhase l v d.gate s).2.1 s).1 := by rw [made]; rfl
  rw [chosen, stackerPhase_eq, decided_causeBefore made, decided_full made]

theorem decided_cause : d.cause = if d.full then some .full else d.causeBefore := by
  have chosen : d.cause = (stackerPhase d.row d.gate.path (printPhase l v d.gate s).2.1 s).2.1 := by rw [made]; rfl
  rw [chosen, stackerPhase_eq, decided_causeBefore made, decided_full made]

theorem decided_residue (caused : d.cause.isSome = true) : d.stacker = residueStacker d.gate.path := by
  rw [decided_stacker made]
  refine if_pos ?_
  rw [decided_cause made] at caused
  split at caused
  · next full => rw [full, Bool.or_true]
  · rw [caused, Bool.true_or]

end

/-! ## The decision is made from the state that it begins in -/

theorem routingDecision_phases {l : Letter} {v : Verdict} {s s₁ s₂ s₃ s₄ : State} {k : Selection} {g : Gated}
    {pr : Option (Accepted × Fin 8)} {n : Fin 8} {c c' : Option ResidueCause} (room : s.ring.orders.length ≤ 13)
    (row : rowSelection l v s = (k, s₁)) (gate : gatePhase l k s₁ = (g, s₂)) (print : printPhase l v g s₂ = (pr, c, s₃))
    (stacker : stackerPhase k g.path c s₃ = (n, c', s₄)) : routingDecision l v s = commitDecision l k g pr n c' s₄ := by
  have enough : ¬freeOrderPlaces s < placesForDecision := by
    rw [freeOrderPlaces, orderCapacity, placesForDecision]
    omega
  unfold routingDecision
  rw [if_neg enough, row]
  dsimp only
  rw [gate]
  dsimp only
  rw [print]
  dsimp only
  rw [stacker]

/-- The phases read only what no earlier phase writes, so that the decision is made from the state that it begins in. -/
theorem routingDecision_eq {l : Letter} {v : Verdict} {s : State} (room : s.ring.orders.length ≤ 13) {d : Decided}
    (made : d = decided l v s) : routingDecision l v s = commitDecision l d.row d.gate d.print d.stacker d.cause (d.noting l s) := by
  have row : rowSelection l v s = (d.row, noted (rowNote s.store.tables d.row.row) none s) :=
    Prod.ext (decided_selection made).symm (by rw [decided_row made]; exact rowSelection_state l v s)
  have frame₁ := noted_frame (rowNote s.store.tables d.row.row) none s
  unfold Decided.noting
  generalize noted (rowNote s.store.tables d.row.row) none s = s₁ at *
  have gated : (gatePhase l d.row s₁).1 = d.gate :=
    (gatePhase_congr (frame₁ .store (by decide)) (frame₁ .routing (by decide)) l d.row).trans (decided_gate made).symm
  have gate : gatePhase l d.row s₁ = (d.gate, noted (forcedNote d.gate.forced) (forcedFlag d.gate.forced) s₁) :=
    Prod.ext gated (by rw [gatePhase_state, gated])
  have frame₂ : changesOnly [.tally, .cond, .ring] s _ := (noted_frame (forcedNote d.gate.forced) (forcedFlag d.gate.forced) s₁).chain frame₁ rfl
  generalize noted (forcedNote d.gate.forced) (forcedFlag d.gate.forced) s₁ = s₂ at *
  obtain ⟨printed, caused⟩ := printPhase_congr (frame₂ .store (by decide)) (frame₂ .clock (by decide)) (frame₂ .heads (by decide))
    (frame₂ .position (by decide)) l v d.gate
  have refused : printRefused l v d.gate s₂ = d.refused := by rw [decided_refused made, printRefused, printRefused, printed]
  rw [← decided_printPhase made] at printed
  rw [decided_causeBefore made] at caused
  have print : printPhase l v d.gate s₂
      = (d.print, d.causeBefore, booked l.seq d.print (noted (refusedNote d.refused) (refusedFlag d.refused) s₂)) :=
    Prod.ext printed (Prod.ext caused (by rw [printPhase_eq.2.2, refused, printed]))
  have frame₃ : changesOnly [.heads, .tally, .cond, .ring] s _ := (booked_frame l.seq d.print
    (noted (refusedNote d.refused) (refusedFlag d.refused) s₂)).chain ((noted_frame (refusedNote d.refused) (refusedFlag d.refused) s₂).chain
      (frame₂.mono rfl) rfl) rfl
  generalize booked l.seq d.print (noted (refusedNote d.refused) (refusedFlag d.refused) s₂) = s₃ at *
  have request := rowRequest_congr (frame₃ .store (by decide)) (frame₃ .stackers (by decide)) d.gate.path d.row.primary d.row.alternate
  have full : foundFull d.row d.gate.path d.causeBefore s₃ = d.full := by rw [decided_full made, foundFull, foundFull, request]
  have stacker := stackerPhase_eq d.row d.gate.path d.causeBefore s₃
  rw [full, request, ← decided_stacker made, ← decided_cause made] at stacker
  exact routingDecision_phases room row gate print stacker

section
variable (d : Decided) (l : Letter) (s : State)

theorem Decided.noting_frame : changesOnly [.heads, .stackers, .tally, .cond, .ring] s (d.noting l s) :=
  (reserve_frame _ d.stacker).chain ((noted_frame _ none _).chain ((booked_frame l.seq d.print _).chain
    ((noted_frame _ _ _).chain ((noted_frame _ _ _).chain ((noted_frame _ none s).mono rfl) rfl) rfl) rfl) rfl) rfl

theorem Decided.noting_stackers : (d.noting l s).stackers = (reserve d.stacker s).stackers := by
  unfold Decided.noting
  rw [reserve, reserve, modifyStacker, modifyStacker, State.withStackers_stackers, State.withStackers_stackers,
    noted_frame _ _ _ .stackers (by decide), booked_frame _ _ _ .stackers (by decide), noted_frame _ _ _ .stackers (by decide),
    noted_frame _ _ _ .stackers (by decide), noted_frame _ _ _ .stackers (by decide)]

theorem Decided.noting_heads : (d.noting l s).heads = (booked l.seq d.print s).heads := by
  unfold Decided.noting
  rw [reserve_frame _ _ .heads (by decide), noted_frame _ _ _ .heads (by decide)]
  refine booked_heads ?_ ?_ _ _
  · rw [noted_frame _ _ _ .store (by decide), noted_frame _ _ _ .store (by decide), noted_frame _ _ _ .store (by decide)]
  · rw [noted_frame _ _ _ .heads (by decide), noted_frame _ _ _ .heads (by decide), noted_frame _ _ _ .heads (by decide)]

theorem Decided.noting_live (j : Fin 64) :
    (d.noting l s).tally.live[j] = s.tally.live[j] + BitVec.ofNat 32 (if rowNote s.store.tables d.row.row = some j then 1 else 0)
      + BitVec.ofNat 32 (if forcedNote d.gate.forced = some j then 1 else 0)
      + BitVec.ofNat 32 (if refusedNote d.refused = some j then 1 else 0)
      + BitVec.ofNat 32 (if fullNote d.full = some j then 1 else 0) := by
  unfold Decided.noting
  rw [reserve_frame _ _ .tally (by decide), noted_live, booked_frame _ _ _ .tally (by decide), noted_live, noted_live, noted_live]

theorem Decided.noting_signals : Signals s (d.noting l s) :=
  ((noted_signals _ none s).trans ((noted_signals _ _ _).trans ((noted_signals _ _ _).trans ((Signals.ofFrame
    (booked_frame l.seq d.print _) rfl).trans (noted_signals _ none _))))).trans (.ofFrame (reserve_frame _ d.stacker) rfl)

theorem Decided.noting_orders_length_le : (d.noting l s).ring.orders.length ≤ s.ring.orders.length := by
  unfold Decided.noting
  rw [reserve_frame _ _ .ring (by decide)]
  refine (noted_orders_length_le _ none _).trans ?_
  rw [booked_frame _ _ _ .ring (by decide)]
  exact (noted_orders_length_le _ _ _).trans ((noted_orders_length_le _ _ _).trans (noted_orders_length_le _ none s))

end

section
variable (d : Decided) (l : Letter) {s : State}

theorem Decided.noting_outputKept (busy : s.ring.sending.isSome = true) : outputKept s (d.noting l s) := by
  have first := noted_outputKept busy (rowNote s.store.tables d.row.row) none
  have second := first.trans (noted_outputKept (first.isSome busy) (forcedNote d.gate.forced) (forcedFlag d.gate.forced))
  have third := second.trans (noted_outputKept (second.isSome busy) (refusedNote d.refused) (refusedFlag d.refused))
  have fourth := third.trans (outputKept.ofRing (booked_frame l.seq d.print _ .ring (by decide)))
  exact (fourth.trans (noted_outputKept (fourth.isSome busy) (fullNote d.full) none)).trans
    (outputKept.ofRing (reserve_frame _ d.stacker .ring (by decide)))

theorem noted_grows (i : Option (Fin 64)) (f : Option ConditionFlag) (s : State) (j : Fin 64) :
    (noted i f s).tally.live[j].toNat ≤ s.tally.live[j].toNat + 1 := by
  rw [noted_live]
  split
  · exact (BitVec.toNat_add _ _).trans_le (Nat.mod_le _ _)
  · rw [BitVec.add_zero]; exact Nat.le_succ _

/-- Where no counter wraps, the two flags are all that the notes do to the flags and the ring port. -/
theorem Decided.noting_alike (far : ∀ j : Fin 64, s.tally.live[j].toNat + 4 < 4294967296) :
    alike (raised (refusedFlag d.refused) (raised (forcedFlag d.gate.forced) s)) (d.noting l s) := by
  have start : alike s (noted (rowNote s.store.tables d.row.row) none s) :=
    alike.noted (.refl s) (fun j => by have := far j; omega) none
  have row := noted_grows (rowNote s.store.tables d.row.row) none s
  unfold Decided.noting
  generalize noted (rowNote s.store.tables d.row.row) none s = s₁ at *
  have gated := start.noted (i := forcedNote d.gate.forced)
    (fun j => by have := far j; have := row j; omega) (forcedFlag d.gate.forced)
  have gate := noted_grows (forcedNote d.gate.forced) (forcedFlag d.gate.forced) s₁
  generalize noted (forcedNote d.gate.forced) (forcedFlag d.gate.forced) s₁ = s₂ at *
  have printed := gated.noted (i := refusedNote d.refused)
    (fun j => by have := far j; have := row j; have := gate j; omega) (refusedFlag d.refused)
  have print := noted_grows (refusedNote d.refused) (refusedFlag d.refused) s₂
  generalize noted (refusedNote d.refused) (refusedFlag d.refused) s₂ = s₃ at *
  have tally := booked_frame l.seq d.print s₃ .tally (by decide)
  exact ((printed.trans (.ofFrame (booked_frame l.seq d.print s₃))).noted (i := fullNote d.full)
    (fun j => by rw [tally]; have := far j; have := row j; have := gate j; have := print j; omega) none).trans
    (.ofFrame (reserve_frame _ d.stacker))

end

end Sys2Proof.Machine
end

section
/-! SUPPORT. Obligation O52, third part: the commit, and a decision's orders at the output (spec sections 5.5 and 11.2). -/
namespace Sys2Proof.Machine

/-! ## Orders that join, and then a lamp that is recomputed -/

/-- The LAMP order that a recomputation queues behind these orders, where it changes the lamp and the queue has room. -/
def lampBehind (s : State) (n : Fin 8) (queued : List OrderFrame) : List OrderFrame :=
  if lampConditionOf s n = s.stackers[n].lamp ∨ 16 ≤ queued.length then [] else [lampOrder s n (lampConditionOf s n)]

theorem joinOrders_sending (os : List OrderFrame) : ∀ {s : State}, s.ring.sending.isSome = true →
    (os.foldl (fun s o => joinOrder o s) s).ring = { s.ring with orders := s.ring.orders ++ os } := by
  induction os with
  | nil => intro s _; rw [List.foldl_nil, List.append_nil]
  | cons o os ih =>
    intro s busy
    have joined : (joinOrder o s).ring = { s.ring with orders := s.ring.orders ++ [o] } := by rw [joinOrder_sending busy]; rfl
    rw [List.foldl_cons, ih (by rw [joined]; exact busy), joined, List.append_assoc]
    rfl

theorem lampBehind_congr {s t : State} (store : t.store = s.store) (stackers : t.stackers = s.stackers) (n : Fin 8)
    (queued : List OrderFrame) : lampBehind t n queued = lampBehind s n queued := by
  have condition : lampConditionOf t n = lampConditionOf s n := lampConditionOf_congr store (by rw [stackers]) (by rw [stackers])
  rw [lampBehind, lampBehind, condition, stackers, lampOrder_congr store]

theorem recomputeLamp_sending {s : State} (busy : s.ring.sending.isSome = true) (n : Fin 8) :
    (recomputeLamp n s).ring.sending = s.ring.sending
      ∧ (recomputeLamp n s).ring.orders = s.ring.orders ++ lampBehind s n s.ring.orders := by
  by_cases same : lampConditionOf s n = s.stackers[n].lamp
  · rw [recomputeLamp_stands same, lampBehind, if_pos (.inl same), List.append_nil]
    exact ⟨rfl, rfl⟩
  · obtain ⟨sending, -, orders, -⟩ := recomputeLamp_issues same (issueOrder_sends busy _ _)
    rw [sending, orders, lampBehind]
    by_cases full : 16 ≤ s.ring.orders.length
    · rw [issueOrder_full full, if_pos (.inr full), List.append_nil]
      exact ⟨rfl, rfl⟩
    · rw [issueOrder_room (Nat.not_le.mp full), joinOrder_sending busy, if_neg (by rintro (h | h); exacts [same h, full h])]
      exact ⟨rfl, rfl⟩

/-- Behind a SENDING output the orders queue at the tail, and the LAMP order behind them. -/
theorem ordersJoin_sending {s : State} (busy : s.ring.sending.isSome = true) (os : List OrderFrame) (n : Fin 8) :
    (recomputeLamp n (os.foldl (fun s o => joinOrder o s) s)).ring.sending = s.ring.sending
      ∧ (recomputeLamp n (os.foldl (fun s o => joinOrder o s) s)).ring.orders
        = s.ring.orders ++ os ++ lampBehind s n (s.ring.orders ++ os) := by
  have joined := joinOrders_sending os busy
  have frame := joinOrders_frame os s
  obtain ⟨sending, orders⟩ := recomputeLamp_sending (s := os.foldl (fun s o => joinOrder o s) s) (by rw [joined]; exact busy) n
  rw [lampBehind_congr (frame .store (by decide)) (frame .stackers (by decide)), joined] at orders
  rw [joined] at sending
  exact ⟨sending, orders⟩

/-- An IDLE output with nothing to send takes the first order at once; the others, and the LAMP order, queue. -/
theorem ordersJoin_idle {s : State} (idle : s.ring.sending = none) (none_queued : s.ring.orders = []) (none_wait : s.ring.waiting = [])
    {os : List OrderFrame} (few : os.length < 16) {n : Fin 8} {o : OrderFrame} {rest : List OrderFrame}
    (order : os ++ lampBehind s n os = o :: rest) :
    (recomputeLamp n (os.foldl (fun s o => joinOrder o s) s)).ring.sending = some (orderFrame s.ring.own o)
      ∧ (recomputeLamp n (os.foldl (fun s o => joinOrder o s) s)).ring.orders = rest := by
  cases os with
  | cons first others =>
    obtain ⟨rfl, rfl⟩ := List.cons.inj order
    have granted := joinOrder_idle idle none_queued none_wait first
    obtain ⟨sending, orders⟩ := ordersJoin_sending (s := joinOrder first s) (by rw [granted]; rfl) others n
    rw [List.foldl_cons, sending, orders, granted]
    refine ⟨rfl, ?_⟩
    have room : ∀ queued : List OrderFrame, queued.length < 16 → ∀ t : State, t.store = s.store → t.stackers = s.stackers →
        lampBehind t n queued = lampBehind s n (first :: others) := fun queued short t store stackers => by
      rw [lampBehind_congr store stackers, lampBehind, lampBehind]
      simp only [Nat.not_le.mpr short, Nat.not_le.mpr few]
    have tail := room (s.ring.orders ++ others) (by rw [none_queued]; exact Nat.lt_of_succ_lt few)
      (s.withRing { s.ring with sending := some (orderFrame s.ring.own first) }) rfl rfl
    show s.ring.orders ++ others ++ lampBehind _ n (s.ring.orders ++ others) = _
    rw [tail, none_queued]
    rfl
  | nil =>
    rw [List.nil_append, lampBehind] at order
    split at order
    · cases order
    next changed =>
    obtain ⟨rfl, rfl⟩ := List.cons.inj order
    have other : lampConditionOf s n ≠ s.stackers[n].lamp := fun same => changed (.inl same)
    have issued : issueOrder (.lamp n) (lampOrder s n (lampConditionOf s n)) s
        = s.withRing { s.ring with sending := some (orderFrame s.ring.own (lampOrder s n (lampConditionOf s n))) } := by
      rw [issueOrder_room (by rw [none_queued]; decide), joinOrder_idle idle none_queued none_wait]
    obtain ⟨sending, -, orders, -⟩ := recomputeLamp_issues other (by rw [issued]; rfl)
    rw [List.foldl_nil, sending, orders, issued]
    exact ⟨rfl, none_queued⟩

/-! ## The commit -/

/-- The state that the decision's orders join in: the letter, the plan and the gate path are written. -/
def Decided.recorded (d : Decided) (l : Letter) (s : State) : State :=
  let s := appendPlan l d.gate.path (writeDisposition l.seq ⟨d.gate.path, d.stacker, d.row.row, d.cause⟩ (printOf d.print)
    (arrivalWindow s d.stacker l.leading) s)
  if d.gate.switchAt.isSome then s.withRouting { s.routing with gatePath := d.gate.path } else s

def Decided.orders (d : Decided) (l : Letter) (s : State) : List OrderFrame := decisionOrders s l d.gate d.print d.stacker

section
variable (d : Decided) (l : Letter) (s : State)

theorem commitDecision_eq : commitDecision l d.row d.gate d.print d.stacker d.cause s
    = recomputeLamp d.stacker ((d.orders l (d.recorded l s)).foldl (fun s o => joinOrder o s) (d.recorded l s)) := rfl

theorem Decided.recorded_frame : changesOnly [.track, .routing] s (d.recorded l s) := by
  have planned : changesOnly [.track, .routing] s (appendPlan l d.gate.path (writeDisposition l.seq
      ⟨d.gate.path, d.stacker, d.row.row, d.cause⟩ (printOf d.print) (arrivalWindow s d.stacker l.leading) s)) :=
    (appendPlan_frame _ l d.gate.path).chain ((writeDisposition_frame s l.seq _ _ _).mono rfl) rfl
  unfold Decided.recorded
  dsimp only
  split
  · exact (withRouting_frame _ _).chain planned rfl
  · exact planned

theorem Decided.recorded_track : (d.recorded l s).track = (writeDisposition l.seq ⟨d.gate.path, d.stacker, d.row.row, d.cause⟩
    (printOf d.print) (arrivalWindow s d.stacker l.leading) s).track := by
  unfold Decided.recorded
  dsimp only
  split <;> rfl

end

theorem decisionOrders_congr {s t : State} (store : t.store = s.store) (clock : t.clock = s.clock) (position : t.position = s.position)
    (l : Letter) (g : Gated) (pr : Option (Accepted × Fin 8)) (n : Fin 8) : decisionOrders t l g pr n = decisionOrders s l g pr n := by
  have distance : diverterDistance t n = diverterDistance s n := by rw [diverterDistance.eq_def, diverterDistance.eq_def, position]
  unfold decisionOrders gateOrder printOrder stackOrder geometry
  rw [store, clock, distance]

/-- The state that a decision's orders join in. -/
def Decided.before (d : Decided) (l : Letter) (s : State) : State := d.recorded l (d.noting l s)

theorem Decided.before_frame (d : Decided) (l : Letter) (s : State) :
    changesOnly [.track, .routing, .heads, .stackers, .tally, .cond, .ring] s (d.before l s) :=
  (d.recorded_frame l _).chain ((d.noting_frame l s).mono rfl) rfl

section
variable {l : Letter} {v : Verdict} {s : State} (room : s.ring.orders.length ≤ 13) {d : Decided} (made : d = decided l v s)
include room made

theorem routingDecision_joins : routingDecision l v s
    = recomputeLamp d.stacker ((d.orders l s).foldl (fun s o => joinOrder o s) (d.before l s)) := by
  have frame := d.before_frame l s
  have orders : d.orders l (d.before l s) = d.orders l s :=
    decisionOrders_congr (frame .store (by decide)) (frame .clock (by decide)) (frame .position (by decide)) _ _ _ _
  rw [routingDecision_eq room made, commitDecision_eq, ← Decided.before, orders]

theorem routingDecision_track : (routingDecision l v s).track = (writeDisposition l.seq ⟨d.gate.path, d.stacker, d.row.row, d.cause⟩
    (printOf d.print) (arrivalWindow s d.stacker l.leading) s).track := by
  have frame := d.noting_frame l s
  have track : ∀ w, (writeDisposition l.seq ⟨d.gate.path, d.stacker, d.row.row, d.cause⟩ (printOf d.print) w (d.noting l s)).track
      = (writeDisposition l.seq ⟨d.gate.path, d.stacker, d.row.row, d.cause⟩ (printOf d.print) w s).track := fun w => by
    rw [writeDisposition, writeDisposition, modifyLetter, modifyLetter, State.withTrack_track, State.withTrack_track,
      frame .track (by decide)]
  rw [routingDecision_joins room made, recomputeLamp_frame _ _ .track (by decide), joinOrders_frame _ _ .track (by decide),
    Decided.before, Decided.recorded_track, track, arrivalWindow_congr (frame .store (by decide)) (frame .position (by decide))]

theorem routingDecision_routing : (routingDecision l v s).routing
    = { plan := appendEntry (planEntry s l d.gate.path) s.routing.plan
        gatePath := if d.gate.switchAt.isSome then d.gate.path else s.routing.gatePath } := by
  have frame := d.noting_frame l s
  rw [routingDecision_eq room made, commitDecision_routing, planEntry_congr (frame .store (by decide)), frame .routing (by decide)]

theorem routingDecision_heads : (routingDecision l v s).heads = (booked l.seq d.print s).heads := by
  rw [routingDecision_eq room made, commitDecision_frame _ _ _ _ _ _ _ .heads (by decide), Decided.noting_heads]

theorem routingDecision_tally : (routingDecision l v s).tally = (d.noting l s).tally := by
  rw [routingDecision_eq room made, commitDecision_frame _ _ _ _ _ _ _ .tally (by decide)]

omit room made in
theorem Decided.before_stackers (d : Decided) (l : Letter) (s : State) : (d.before l s).stackers = (reserve d.stacker s).stackers := by
  rw [Decided.before, Decided.recorded_frame _ _ _ .stackers (by decide), Decided.noting_stackers]

theorem routingDecision_stackers (j : Fin 8) : (routingDecision l v s).stackers[j]
    = if j = d.stacker then { s.stackers[j] with inFlight := s.stackers[j].inFlight + 1, lamp := lampConditionOf (d.before l s) d.stacker }
      else s.stackers[j] := by
  have frame := joinOrders_frame (d.orders l s) (d.before l s)
  have condition := lampConditionOf_congr (n := d.stacker) (frame .store (by decide)) (by rw [frame .stackers (by decide)])
    (by rw [frame .stackers (by decide)])
  rw [routingDecision_joins room made, recomputeLamp_stackers, condition, frame .stackers (by decide), Decided.before_stackers,
    reserve_stackers_get]
  split <;> rfl

end

end Sys2Proof.Machine
end

section
/-! SUPPORT. Obligation O52, last part: the decision by the row that it selects, and the obligation (spec sections 5.2 to 5.5). -/
namespace Sys2Proof.Machine

/-- What the gate check makes of the selected row. -/
def gatedBy (k : Selection) (u : RoutingUnit) : GateCheck → Gated
  | .follow => ⟨k.path, none, k.pattern, k.cause, false⟩
  | .switch x => ⟨k.path, some x, k.pattern, k.cause, false⟩
  | .forced => ⟨pathInEffect u, none, none, recordCause k.cause .forced, true⟩

theorem gatePhase_eq (l : Letter) (k : Selection) (s : State) :
    (gatePhase l k s).1 = gatedBy k s.routing (gateCheck (geometryOf s.store.tables) s.routing l.leading k.path) := by
  unfold gatePhase geometry
  split <;> next e => rw [e]; rfl

theorem pathOf_eq {n : Nat} {p : Path} (path : n = if p = .straight then 0 else 1) : pathOf n = p := by
  cases p <;> rw [path] <;> rfl

theorem patternOf_val (n : Fin 8) : patternOf n.val = n := Fin.ext (Nat.mod_eq_of_lt n.isLt)
theorem stackerOf_val (n : Fin 8) : stackerOf n.val = n := Fin.ext (Nat.mod_eq_of_lt n.isLt)

theorem map_patternOf (o : Option (Fin 8)) : (o.map Fin.val).map patternOf = o := by
  cases o with
  | none => rfl
  | some n => exact congrArg some (patternOf_val n)

theorem map_stackerOf (o : Option (Fin 8)) : (o.map Fin.val).map stackerOf = o := by
  cases o with
  | none => rfl
  | some n => exact congrArg some (stackerOf_val n)

/-- The selected row says what these name: what a row that passed its validation asks for, or what no row does. -/
def asksFor (row : Option RoutingRow) (p : Path) (pattern : Option (Fin 8)) (primary : Fin 8) (alternate : Option (Fin 8)) : Prop :=
  (row = none → p = .straight ∧ pattern = none ∧ primary = 0 ∧ alternate = none)
    ∧ ∀ r, row = some r → r.path = (if p = .straight then 0 else 1) ∧ r.pattern = pattern.map Fin.val
      ∧ r.primary = primary.val ∧ r.alternate = alternate.map Fin.val ∧ ∀ k, r.tally = some k → k < 64

section
variable {l : Letter} {v : Verdict} {s : State} {row : Option RoutingRow} {p : Path} {pattern : Option (Fin 8)} {primary : Fin 8}
  {alternate : Option (Fin 8)}

theorem rowSelection_eq (selected : row = (selectRow s.store.tables l v).map (rowInForce s.store.tables))
    (asks : asksFor row p pattern primary alternate) : (rowSelection l v s).1
      = ⟨p, selectRow s.store.tables l v, pattern, primary, alternate, if row = none then some .unrouted else none⟩ := by
  unfold rowSelection
  cases chosen : selectRow s.store.tables l v with
  | none =>
    rw [chosen] at selected
    have none : row = none := selected
    obtain ⟨rfl, rfl, rfl, rfl⟩ := asks.1 none
    rw [if_pos none]
  | some i =>
    rw [chosen] at selected
    obtain ⟨path, pat, first, second, -⟩ := asks.2 _ selected
    dsimp only
    rw [pathOf_eq path, pat, first, second, map_patternOf, stackerOf_val, map_stackerOf, if_neg (by rw [selected]; nofun)]

theorem rowNote_eq {ts : Tables} {chosen : Option Nat} (selected : row = chosen.map (rowInForce ts))
    (asks : asksFor row p pattern primary alternate) (j : Fin 64) :
    (if rowNote ts chosen = some j then 1 else 0)
      = (if row = none ∧ j = tallyUnrouted then 1 else 0) + (if row.bind RoutingRow.tally = some j.val then 1 else 0) := by
  cases chosen with
  | none =>
    have none : row = none := selected
    rw [none, Option.bind_none, if_neg (c := Option.none = some j.val) nofun, rowNote]
    simp [eq_comm]
  | some i =>
    obtain ⟨-, -, -, -, small⟩ := asks.2 _ selected
    rw [selected, Option.map_some, Option.bind_some, rowNote, if_neg (c := _ ∧ _) (fun h => nomatch h.1)]
    cases tally : (rowInForce ts i).tally with
    | none => simp
    | some k =>
      have bound : tallyOfRow k = ⟨k, small k tally⟩ := Fin.ext (Nat.mod_eq_of_lt (small k tally))
      simp [bound, Fin.ext_iff]

variable {d : Decided} (made : d = decided l v s)
  (selected : row = d.row.row.map (rowInForce s.store.tables))
  (asks : asksFor row p pattern primary alternate)
include made selected asks

theorem decided_row_eq : d.row = ⟨p, d.row.row, pattern, primary, alternate, if row = none then some .unrouted else none⟩ := by
  rw [decided_row made] at selected ⊢
  exact (decided_selection made).trans (rowSelection_eq selected asks)

theorem decided_full_eq : d.full = (d.causeBefore.isNone && (rowRequest s d.gate.path primary alternate).isNone) := by
  have full := decided_full made
  rwa [foundFull, decided_row_eq made selected asks] at full

theorem decided_takes (clear : d.cause = none) : rowRequest s d.gate.path primary alternate = some d.stacker := by
  have stacker := decided_stacker made
  have cause := decided_cause made
  rw [clear] at cause
  have full : d.full = false := by
    cases h : d.full with
    | false => rfl
    | true => rw [h] at cause; cases cause
  rw [full] at cause
  have before : d.causeBefore = none := cause.symm
  rw [before, full, decided_row_eq made selected asks] at stacker
  have found := decided_full_eq made selected asks
  rw [before, full] at found
  cases request : rowRequest s d.gate.path primary alternate with
  | none => rw [request] at found; cases found
  | some n =>
    refine congrArg some (stacker.trans ?_).symm
    show (rowRequest s d.gate.path primary alternate).getD _ = n
    rw [request]
    rfl

variable {g : GateCheck} (check : g = gateCheck (geometryOf s.store.tables) s.routing l.leading p)
include check

theorem decided_gate_eq : d.gate = gatedBy ⟨p, d.row.row, pattern, primary, alternate, if row = none then some .unrouted else none⟩ s.routing g := by
  rw [decided_gate made, gatePhase_eq, decided_row_eq made selected asks, ← check]

theorem decided_path : d.gate.path = if g = .forced then pathInEffect s.routing else p := by
  rw [decided_gate_eq made selected asks check]
  cases g <;> rfl

theorem decided_pattern : d.gate.pattern = if g = .forced then none else pattern := by
  rw [decided_gate_eq made selected asks check]
  cases g <;> rfl

theorem decided_forced : d.gate.forced = decide (g = .forced) := by
  rw [decided_gate_eq made selected asks check]
  cases g <;> rfl

theorem decided_gateCause : d.gate.cause = if row = none then some .unrouted else if g = .forced then some .forced else none := by
  rw [decided_gate_eq made selected asks check]
  by_cases none : row = none
  · rw [if_pos none, if_pos none]; cases g <;> rfl
  · rw [if_neg none, if_neg none]; cases g <;> rfl

theorem decided_causeBefore_eq :
    d.causeBefore = if row = none then some .unrouted else if g = .forced then some .forced else if d.refused then some .noprint else none := by
  rw [Decided.causeBefore, decided_gateCause made selected asks check]
  cases d.refused with
  | false => rfl
  | true =>
    rw [if_pos rfl]
    by_cases none : row = none
    · rw [if_pos none, if_pos none]; rfl
    · rw [if_neg none, if_neg none]; split <;> rfl

/-- The first cause met stands. -/
theorem decided_cause_eq : d.cause = if row = none then some .unrouted else if g = .forced then some .forced
    else if d.refused then some .noprint else if rowRequest s d.gate.path primary alternate = none then some .full else none := by
  rw [decided_cause made, decided_full_eq made selected asks, decided_causeBefore_eq made selected asks check]
  split
  · rfl
  · split
    · rfl
    · split
      · rfl
      · cases rowRequest s d.gate.path primary alternate <;> rfl

theorem decided_full_iff : d.full = decide (d.cause = some .full) := by
  rw [decided_cause made]
  cases full : d.full with
  | true => rfl
  | false =>
    refine (decide_eq_false ?_).symm
    rw [if_neg Bool.false_ne_true, decided_causeBefore_eq made selected asks check]
    split
    · nofun
    · split
      · nofun
      · split <;> nofun

theorem decided_live (j : Fin 64) : (d.noting l s).tally.live[j] = s.tally.live[j] + BitVec.ofNat 32
    ((if row = none ∧ j = tallyUnrouted then 1 else 0) + (if g = .forced ∧ j = tallyForced then 1 else 0)
      + (if d.refused ∧ j = tallyNoprint then 1 else 0) + (if d.cause = some .full ∧ j = tallyFulldivert then 1 else 0)
      + (if row.bind RoutingRow.tally = some j.val then 1 else 0)) := by
  have single : ∀ (c : Bool) (i : Fin 64), (if (if c then some i else none) = some j then 1 else 0) = (if c ∧ j = i then 1 else 0) :=
    fun c i => by cases c <;> simp [eq_comm]
  rw [d.noting_live l s j, rowNote_eq selected asks j, forcedNote, refusedNote, fullNote, single, single, single,
    decided_forced made selected asks check, decided_full_iff made selected asks check]
  simp only [decide_eq_true_eq, BitVec.ofNat_add]
  ac_rfl

end

/-! ## The decision's orders -/

def gateOrders (s : State) (p : Path) : GateCheck → List OrderFrame
  | .switch x => [⟨gateStation s.store.tables, .gate p x⟩]
  | _ => []

def printOrders (s : State) (date : Date) (q : Seq) : Option Print → List OrderFrame
  | some x => [⟨headStation s.store.tables x.head, .print x.head q x.start x.length x.pattern
      (patternRow (tableRow s.store.tables .pattern x.pattern.val)).style date.day date.month date.year
      s.clock.hour (officeNumber s.store.tables) (laneNumber s.store.tables)⟩]
  | none => []

def stackOrders (s : State) (ds : Vector StackerDistance 8) (l : Letter) (L m : Nat) (n : Fin 8) : List OrderFrame :=
  if n = 0 ∨ n = 4 then []
  else [⟨officeStation s.store.tables (if n.val < 4 then 6 else 7), .stack n l.seq
    (l.leading + BitVec.ofNat 24 ds[n].diverter - BitVec.ofNat 24 m)
    (l.leading + BitVec.ofNat 24 L + BitVec.ofNat 24 ds[n].diverter + BitVec.ofNat 24 m)⟩]

theorem stackOrders_eq {s : State} {ds : Vector StackerDistance 8} {l : Letter} {L : Nat} (formed : s.position.stackers = some ds)
    (length : l.length = some L) (n : Fin 8) :
    (if isResidue n then [] else [stackOrder s l n]) = stackOrders s ds l L (geometryOf s.store.tables).stackMargin n := by
  have residue : (isResidue n = true) = (n = 0 ∨ n = 4) := by
    rw [isResidue, Bool.or_eq_true, decide_eq_true_iff, decide_eq_true_iff]
  have station : stackerStation s.store.tables n = officeStation s.store.tables (if n.val < 4 then 6 else 7) := by
    rw [stackerStation, stackerPath]
    by_cases low : n.val < 4
    · rw [if_pos low, if_pos low]
    · rw [if_neg low, if_neg low]
  have diverter : diverterDistance s n = ds[n].diverter := by rw [diverterDistance, formed]
  unfold stackOrders
  simp only [residue]
  rw [stackOrder, station, diverter, trailingOf, length]
  rfl

/-- The orders of a decision: GATE on a switch, PRINT for a print, STACK to no residue stacker. -/
theorem decidedOrders_eq {s : State} {d : Decided} {k : Selection} {u : RoutingUnit} {g : GateCheck} (gate : d.gate = gatedBy k u g)
    {date : Date} (day : date = (if 0 < cutoverHour s.store.tables ∧ cutoverHour s.store.tables ≤ s.clock.hour
      then nextDay (dateOf s.clock) else dateOf s.clock)) {ds : Vector StackerDistance 8} {l : Letter} {L : Nat}
    (formed : s.position.stackers = some ds) (length : l.length = some L) :
    d.orders l s = gateOrders s k.path g ++ printOrders s date l.seq (printOf d.print)
      ++ stackOrders s ds l L (geometryOf s.store.tables).stackMargin d.stacker := by
  have postmark : postmarkDate s.clock (cutoverHour s.store.tables) = date := day.symm
  have print : (match d.print with
      | none => []
      | some (a, pat) => [printOrder s l.seq a pat]) = printOrders s date l.seq (printOf d.print) := by
    cases d.print with
    | none => rfl
    | some x =>
      show [printOrder s l.seq x.1 x.2] = _
      rw [printOrder, postmark]
      rfl
  have switch : (match d.gate.switchAt with
      | none => []
      | some x => [gateOrder s d.gate.path x]) = gateOrders s k.path g := by
    rw [gate]
    cases g <;> rfl
  rw [← print, ← switch, ← stackOrders_eq formed length]
  rfl

/-! ## The flags that a decision sets -/

theorem Decided.noting_forced {d : Decided} (forced : d.gate.forced = true) (l : Letter) (s : State) :
    flagSet (d.noting l s) .forced = true := by
  have flag : forcedFlag d.gate.forced = some .forced := if_pos forced
  unfold Decided.noting
  rw [flag]
  have set := noted_sets (forcedNote d.gate.forced) .forced (noted (rowNote s.store.tables d.row.row) none s)
  generalize noted (forcedNote d.gate.forced) (some .forced) (noted (rowNote s.store.tables d.row.row) none s) = s₂ at *
  exact (((noted_signals (refusedNote d.refused) (refusedFlag d.refused) s₂).trans ((Signals.ofFrame (booked_frame l.seq d.print _) rfl).trans
    (noted_signals (fullNote d.full) none _))).trans (.ofFrame (reserve_frame _ d.stacker) rfl)).flags set

theorem Decided.noting_refused {d : Decided} (refused : d.refused = true) (l : Letter) (s : State) :
    flagSet (d.noting l s) .noprint = true := by
  have flag : refusedFlag d.refused = some .noprint := if_pos refused
  unfold Decided.noting
  rw [flag]
  generalize noted (forcedNote d.gate.forced) _ _ = s₂
  have set := noted_sets (refusedNote d.refused) .noprint s₂
  generalize noted (refusedNote d.refused) (some .noprint) s₂ = s₃ at *
  exact (((Signals.ofFrame (booked_frame l.seq d.print s₃) rfl).trans (noted_signals (fullNote d.full) none _)).trans
    (.ofFrame (reserve_frame _ d.stacker) rfl)).flags set

end Sys2Proof.Machine
end

section
/-! SUPPORT. Obligation O52: the decision's writes, its output, and the obligation (spec sections 5.5 and 11.2). -/
namespace Sys2Proof.Machine

section
variable {l : Letter} {v : Verdict} {s : State} (room : s.ring.orders.length ≤ 13) {d : Decided} (made : d = decided l v s)
include room made

theorem routingDecision_letter (found : findLetter s l.seq = some l) : findLetter (routingDecision l v s) l.seq
    = some { l with
      disposition := some ⟨d.gate.path, d.stacker, d.row.row, d.cause⟩, print := printOf d.print
      window := some (arrivalWindow s d.stacker l.leading), state := .routed } := by
  rw [findLetter_congr (congrArg (·.letters) (routingDecision_track room made)), writeDisposition]
  refine (findLetter_modifyLetter ?_).trans (congrArg (Option.map _) found)
  exact fun _ => rfl

theorem routingDecision_others {k : Letter} (mem : k ∈ s.track.letters) (other : k.seq ≠ l.seq) :
    k ∈ (routingDecision l v s).track.letters := by
  rw [routingDecision_track room made, writeDisposition, modifyLetter_letters]
  exact List.mem_map.mpr ⟨k, mem, if_neg other⟩

theorem routingDecision_planned : (routingDecision l v s).routing.plan.getLast? = some (planEntry s l d.gate.path) := by
  rw [routingDecision_routing room made]
  exact List.getLast?_concat

theorem routingDecision_booked {x : Print} (print : printOf d.print = some x) : x.status = .planned
    ∧ ∃ b, (routingDecision l v s).heads[x.head].bookings = s.heads[x.head].bookings ++ [b]
      ∧ b.tag = l.seq ∧ b.start = x.start ∧ b.stop = x.start + BitVec.ofNat 24 x.length
      ∧ b.occupied = b.stop + BitVec.ofNat 24 (geometryOf s.store.tables).rHead := by
  rw [routingDecision_heads room made]
  cases chosen : d.print with
  | none => rw [chosen] at print; cases print
  | some y =>
    rw [chosen] at print
    cases print
    refine ⟨rfl, bookingOf s l.seq y.1, ?_, rfl, rfl, rfl, rfl⟩
    show (addBooking y.1.head (bookingOf s l.seq y.1) s).heads[y.1.head].bookings = _
    rw [addBooking, modifyHead_get_self]

theorem routingDecision_unbooked (print : printOf d.print = none) : (routingDecision l v s).heads = s.heads := by
  rw [routingDecision_heads room made, Option.map_eq_none_iff.mp print]
  rfl

/-- A flag that the notes set stands: the commit clears none. -/
theorem routingDecision_flags {f : ConditionFlag} (set : flagSet (d.noting l s) f = true) : flagSet (routingDecision l v s) f = true := by
  rw [routingDecision_eq room made]
  have few := d.noting_orders_length_le l s
  refine (commitDecision_signals _ l d.row d.gate d.print d.stacker d.cause ?_).flags set
  rw [placesForDecision, orderCapacity]
  omega

/-- The LAMP order of a decision, in the terms of its outcome. -/
theorem lampBehind_before (queued : List OrderFrame) : lampBehind (d.before l s) d.stacker queued
    = if (routingDecision l v s).stackers[d.stacker].lamp = s.stackers[d.stacker].lamp ∨ 16 ≤ queued.length then []
      else [lampOrder s d.stacker (routingDecision l v s).stackers[d.stacker].lamp] := by
  have after := routingDecision_stackers room made d.stacker
  rw [if_pos rfl] at after
  have held : (d.before l s).stackers[d.stacker].lamp = s.stackers[d.stacker].lamp := by
    rw [Decided.before_stackers, reserve_stackers_get, if_pos rfl]
  rw [lampBehind, held, lampOrder_congr (d.before_frame l s .store (by decide)), after]

omit room made in
theorem Decided.before_ring (d : Decided) (l : Letter) (s : State) : (d.before l s).ring = (d.noting l s).ring :=
  d.recorded_frame l _ .ring (by decide)

/-- Behind a SENDING output a decision's orders and its LAMP order follow the queued ones. -/
theorem decision_sending (busy : s.ring.sending.isSome = true) : outputKept s (d.before l s)
    ∧ (routingDecision l v s).ring.sending = s.ring.sending
    ∧ (routingDecision l v s).ring.orders
      = s.ring.orders ++ d.orders l s ++ lampBehind (d.before l s) d.stacker (s.ring.orders ++ d.orders l s) := by
  have kept := (d.noting_outputKept l busy).trans (outputKept.ofRing (Decided.before_ring d l s))
  obtain ⟨sending, orders⟩ := ordersJoin_sending (kept.isSome busy) (d.orders l s) d.stacker
  rw [← routingDecision_joins room made] at sending orders
  have queue := kept.2.2.1
  rw [queue] at orders
  exact ⟨kept, sending.trans kept.1, orders⟩

/-- At an IDLE output that has nothing to send a decision's first frame goes at once: a notice of its flags, or its first order. -/
theorem decision_idle (idle : s.ring.sending = none) (holds : ringInvariant s.ring) {lamp : List OrderFrame}
    (behind : lamp = lampBehind (d.before l s) d.stacker (d.orders l s)) :
    (∀ f, (d.before l s).ring.sending = some f →
        (routingDecision l v s).ring.orders = d.orders l s ++ lamp ∧ (routingDecision l v s).ring.sending = some f)
      ∧ ((d.before l s).ring.sending = none → d.orders l s ++ lamp = [] → (routingDecision l v s).ring = (d.before l s).ring)
      ∧ ∀ o rest, (d.before l s).ring.sending = none → d.orders l s ++ lamp = o :: rest →
        (routingDecision l v s).ring.sending = some (orderFrame s.ring.own o) ∧ (routingDecision l v s).ring.orders = rest := by
  have ring := Decided.before_ring d l s
  have signals := (d.noting_signals l s).trans (.still ring (d.recorded_frame l _ .cond (by decide)))
  have few := d.noting_orders_length_le l s
  rw [← ring, (idle_ring idle holds).1] at few
  have queue : (d.before l s).ring.orders = [] := List.length_eq_zero_iff.mp (Nat.le_zero.mp few)
  have short : (d.orders l s).length < 16 := Nat.lt_of_le_of_lt (decisionOrders_length_le s l d.gate d.print d.stacker) (by decide)
  have waiting := (signals.holds ((ringInvariant_iff _).mp holds)).waiting_nil (by rw [queue]; decide)
  rw [routingDecision_joins room made]
  refine ⟨fun f sends => ?_, fun _ silent => ?_, fun o rest idle' first => ?_⟩
  · obtain ⟨sending, orders⟩ := ordersJoin_sending (s := d.before l s) (by rw [sends]; rfl) (d.orders l s) d.stacker
    rw [queue, List.nil_append, ← behind] at orders
    exact ⟨orders, sending.trans sends⟩
  · obtain ⟨nothing, quiet⟩ := List.append_eq_nil_iff.mp silent
    rw [behind, nothing, lampBehind] at quiet
    rw [nothing, List.foldl_nil]
    split at quiet
    · next stands =>
      rcases stands with same | full
      · rw [recomputeLamp_stands same]
      · exact absurd full (by decide)
    · cases quiet
  · rw [behind] at first
    rw [← signals.own]
    exact ordersJoin_idle idle' queue waiting short first

end

/-- Settles O52, by the phases' values read from the state that the decision begins in, the notes that they leave, and the commit. -/
theorem decisionCommits : Obligations.DecisionCommits := by
  unfold Obligations.DecisionCommits
  intro l v s room found distinct
  obtain ⟨d, made⟩ : ∃ d, d = decided l v s := ⟨_, rfl⟩
  have stackers := routingDecision_stackers room made
  refine ⟨routingDecision l v s, ⟨d.gate.path, d.stacker, d.row.row, d.cause⟩, printOf d.print, _, rfl, routingDecision_letter room made found,
    rfl, fun k mem other => routingDecision_others room made mem other, decided_residue made, decided_row made,
    ⟨planEntry s l d.gate.path, routingDecision_planned room made, rfl, rfl⟩, ?_, ?_, ?_, ?_,
    fun x print => routingDecision_booked room made print, routingDecision_unbooked room made, routingDecision_frame s l v, ?_⟩
  · rw [pathInEffect, routingDecision_planned room made]
    rfl
  · rw [stackers, if_pos rfl]
  · intro j other
    rw [stackers, if_neg other]
  · intro j
    rw [stackers]
    split <;> rfl
  intro row p pattern primary alternate selected unselected wants g check wanted wanted_eq accepted accepted_eq refused refused_eq request request_eq
  have asks : asksFor row p pattern primary alternate := ⟨unselected, wants⟩
  have selected' : row = d.row.row.map (rowInForce s.store.tables) := selected
  clear selected unselected wants
  have gate := decided_gate_eq made selected' asks check
  have forced := decided_forced made selected' asks check
  have print := decided_print made
  rw [decided_pattern made selected' asks check, ← wanted_eq] at print
  have refusal : d.refused = refused := by
    rw [decided_refused made, printRefused, ← decided_printPhase made, decided_pattern made selected' asks check, ← wanted_eq, print, refused_eq,
      accepted_eq]
    cases wanted with
    | none => rfl
    | some pat =>
      show (true && ((requestBooking s l v d.gate.path pat).map (·, pat)).isNone)
        = decide (true = true ∧ requestBooking s l v d.gate.path pat = none)
      cases requestBooking s l v d.gate.path pat <;> rfl
  have cause := decided_cause_eq made selected' asks check
  rw [refusal, ← request_eq] at cause
  have live := decided_live made selected' asks check
  rw [refusal] at live
  refine ⟨decided_path made selected' asks check, ?_, ?_, cause, fun clear => ?_, fun j => ?_, fun isForced => ?_, fun isRefused => ?_, ?_⟩
  · rw [routingDecision_routing room made, gate]
    cases g <;> rfl
  · rw [print, accepted_eq]
    cases wanted with
    | none => rfl
    | some pat =>
      show printOf ((requestBooking s l v d.gate.path pat).map (·, pat))
        = (requestBooking s l v d.gate.path pat).bind fun a => some ⟨a.head, a.start, a.length, pat, .planned⟩
      cases requestBooking s l v d.gate.path pat <;> rfl
  · exact request_eq.trans (decided_takes made selected' asks clear)
  · rw [routingDecision_tally room made]
    exact live j
  · exact routingDecision_flags room made (Decided.noting_forced (forced.trans (decide_eq_true isForced)) l s)
  · exact routingDecision_flags room made (Decided.noting_refused (refusal.trans isRefused) l s)
  intro date day ds m L formed margin length orders list
  have orders_eq : orders = d.orders l s := by
    rw [decidedOrders_eq gate day formed length, list, margin, stackOrders]
    cases g <;> cases printOf d.print <;> rfl
  subst orders_eq
  refine ⟨d.before l s, routingDecision_joins room made, ?_, ?_⟩
  · rintro far w rfl
    obtain ⟨cond, ring, -⟩ := (d.noting_alike l far).trans (.ofFrame (d.recorded_frame l (d.noting l s)))
    have notices : raised (refusedFlag d.refused) (raised (forcedFlag d.gate.forced) s)
        = if g = .forced then setFlag .forced s else if refused then setFlag .noprint s else s := by
      rw [refusal, forced]
      by_cases isForced : g = .forced
      · have unasked : refused = false := by
          rw [refused_eq, wanted_eq, if_pos isForced]
          rfl
        rw [if_pos isForced, unasked, decide_eq_true isForced]
        rfl
      · rw [if_neg isForced, decide_eq_false isForced]
        cases refused <;> rfl
    rw [← notices]
    exact ⟨ring, cond⟩
  · intro lamp lamp_eq
    rw [← lampBehind_before room made] at lamp_eq
    refine ⟨fun busy => ?_, fun idle holds => ?_⟩
    · obtain ⟨⟨sending, -, queue, waiting⟩, frame, queued⟩ := decision_sending room made busy
      rw [← lamp_eq] at queued
      exact ⟨queue, waiting, sending, queued, frame⟩
    · rw [(idle_ring idle holds).1, List.nil_append] at lamp_eq
      exact decision_idle room made idle holds lamp_eq

end Sys2Proof.Machine
end

section
/-! SUPPORT. Obligation O31: the head list of a MODE ask, its tests in their order, and its entries (spec sections 2.3 and 6.8). -/
namespace Sys2Proof.Machine

/-! ## The head list -/

theorem headEntryOf_iff (h b : Byte) (e : HeadEntry) :
    headEntryOf h b = some e ↔ b.toNat ≤ 1 ∧ e.head.val = h.toNat ∧ e.enable = decide (b = 0) := by
  unfold headEntryOf
  have code : b.toNat ≤ 1 ↔ b = 0 ∨ b = 1 := by
    rw [← BitVec.toNat_inj, ← BitVec.toNat_inj]
    show b.toNat ≤ 1 ↔ b.toNat = 0 ∨ b.toNat = 1
    omega
  have is : ∀ c (hh : h.toNat < 4), some (⟨⟨h.toNat, hh⟩, c⟩ : HeadEntry) = some e ↔ e.head.val = h.toNat ∧ e.enable = c := fun c hh => by
    obtain ⟨k, d⟩ := e
    rw [Option.some_inj, HeadEntry.mk.injEq, Fin.ext_iff, eq_comm (a := h.toNat), eq_comm (a := c)]
  rw [code]
  split
  · next hh =>
    split
    · next zero => rw [is, decide_eq_true zero]; exact ⟨fun h => ⟨.inl zero, h⟩, And.right⟩
    · next other =>
      split
      · next one => rw [is, decide_eq_false other]; exact ⟨fun h => ⟨.inr one, h⟩, And.right⟩
      · next third => exact ⟨nofun, fun h => absurd h.1 (by rintro (a | a); exacts [other a, third a])⟩
  · next beyond => exact ⟨nofun, fun h => absurd (h.2.1 ▸ e.head.isLt) beyond⟩

theorem headEntryOf_eq_none_iff (h b : Byte) : headEntryOf h b = none ↔ ¬(h.toNat < 4 ∧ b.toNat ≤ 1) := by
  rw [Option.eq_none_iff_forall_ne_some]
  constructor
  · exact fun none good => none ⟨⟨h.toNat, good.1⟩, decide (b = 0)⟩ ((headEntryOf_iff h b _).mpr ⟨good.2, rfl, rfl⟩)
  · intro bad e named
    obtain ⟨code, number, -⟩ := (headEntryOf_iff h b e).mp named
    exact bad ⟨number ▸ e.head.isLt, code⟩

/-- The list is read exactly when every entry is good, entry by entry. -/
theorem headListOf_entries (entries : List (Byte × Byte)) :
    (∀ es, headListOf (entries.flatMap fun e => [e.1, e.2]) = some es →
        es.map (fun e => (e.head.val, e.enable)) = entries.map (fun e => (e.1.toNat, decide (e.2 = 0))))
      ∧ (headListOf (entries.flatMap fun e => [e.1, e.2]) = none ↔ ¬∀ e ∈ entries, e.1.toNat < 4 ∧ e.2.toNat ≤ 1) := by
  induction entries with
  | nil => exact ⟨fun es read => by cases read; rfl, ⟨nofun, fun bad => absurd (fun _ mem => nomatch mem) bad⟩⟩
  | cons entry rest ih =>
    obtain ⟨reads, fails⟩ := ih
    have step : headListOf ((entry :: rest).flatMap fun e => [e.1, e.2])
        = (headEntryOf entry.1 entry.2).bind fun e => (headListOf (rest.flatMap fun e => [e.1, e.2])).map (e :: ·) := by
      rw [List.flatMap_cons]
      show headListOf (entry.1 :: entry.2 :: rest.flatMap fun e => [e.1, e.2]) = _
      rw [headListOf]
      cases headEntryOf entry.1 entry.2 with
      | none => rfl
      | some e => cases headListOf (rest.flatMap fun e => [e.1, e.2]) <;> rfl
    rw [step]
    refine ⟨fun es read => ?_, ?_⟩
    · obtain ⟨e, named, read⟩ := Option.bind_eq_some_iff.mp read
      obtain ⟨es', tail, rfl⟩ := Option.map_eq_some_iff.mp read
      obtain ⟨-, number, setting⟩ := (headEntryOf_iff _ _ e).mp named
      rw [List.map_cons, List.map_cons, reads es' tail, number, setting]
    · rw [List.forall_mem_cons, not_and_or, ← fails, ← headEntryOf_eq_none_iff]
      cases headEntryOf entry.1 entry.2 with
      | none => exact ⟨fun _ => .inl rfl, fun _ => rfl⟩
      | some e => cases headListOf (rest.flatMap fun e => [e.1, e.2]) <;> simp

theorem serve_mode (target : Byte) (entries : List (Byte × Byte)) (s : State) :
    serve 0x04 (modeArgs target entries) s = serveMode target (entries.flatMap fun e => [e.1, e.2]) s := by
  have even : (entries.flatMap fun e => [e.1, e.2]).length % 2 = 0 := by simp
  exact if_pos even

theorem modeArgs_length (target : Byte) (entries : List (Byte × Byte)) : (modeArgs target entries).length = 1 + 2 * entries.length := by
  simp [modeArgs]
  omega

/-! ## The tests -/

theorem jumpForbidden_iff (m n : LaneMode) : jumpForbidden m n = true ↔ (m, n) ∈ ([(.stopped, .draining), (.running, .service),
    (.draining, .service), (.service, .running), (.service, .draining)] : List (LaneMode × LaneMode)) := by
  cases m <;> cases n <;> decide

/-- The tables of the missing-table test stand in the order of their identifiers. -/
theorem missingTable_first {st : TableStore} {t : TableId} (mem : t ∈ ([.stacker, .geometry, .scanset, .office] : List TableId))
    (missing : isCommitted st t = false) (first : ∀ u ∈ ([.stacker, .geometry, .scanset, .office] : List TableId),
      (tableNumber u).val < (tableNumber t).val → isCommitted st u = true) : missingTable st = some t := by
  simp only [List.forall_mem_cons, List.not_mem_nil, false_implies, implies_true, and_true] at first
  obtain ⟨stacker, geometry, scanset, -⟩ := first
  unfold missingTable
  simp only [List.mem_cons, List.not_mem_nil, or_false] at mem
  rcases mem with rfl | rfl | rfl | rfl
  · simp [missing]
  · simp [missing, stacker (by decide)]
  · simp [missing, stacker (by decide), geometry (by decide)]
  · simp [missing, stacker (by decide), geometry (by decide), scanset (by decide)]

theorem missingTable_none {st : TableStore} (all : ∀ u ∈ ([.stacker, .geometry, .scanset, .office] : List TableId), isCommitted st u = true) :
    missingTable st = none :=
  List.find?_eq_none.mpr fun u mem => by rw [all u mem]; decide

/-- The head list of a good ask. -/
theorem serveMode_good {target : Byte} {m : LaneMode} (named : modeOf target = some m) {entries : List (Byte × Byte)}
    {es : List HeadEntry} (read : headListOf (entries.flatMap fun e => [e.1, e.2]) = some es) (few : entries.length ≤ 4) (s : State) :
    serveMode target (entries.flatMap fun e => [e.1, e.2]) s = modeTests m es s := by
  have length : es.length = entries.length := by
    have mapped := congrArg List.length ((headListOf_entries entries).1 es read)
    rwa [List.length_map, List.length_map] at mapped
  unfold serveMode
  rw [named, read]
  exact if_neg (by omega)

theorem serveMode_bad {target : Byte} {entries : List (Byte × Byte)}
    (bad : modeOf target = none ∨ ¬(entries.length ≤ 4 ∧ ∀ e ∈ entries, e.1.toNat < 4 ∧ e.2.toNat ≤ 1)) (s : State) :
    serveMode target (entries.flatMap fun e => [e.1, e.2]) s = ⟨s, .range, modeData s 0xFF⟩ := by
  unfold serveMode
  cases named : modeOf target with
  | none => rfl
  | some m =>
    cases read : headListOf (entries.flatMap fun e => [e.1, e.2]) with
    | none => rfl
    | some es =>
      obtain ⟨reads, fails⟩ := headListOf_entries entries
      have length := congrArg List.length (reads es read)
      rw [List.length_map, List.length_map] at length
      have valid : ∀ e ∈ entries, e.1.toNat < 4 ∧ e.2.toNat ≤ 1 := Decidable.byContradiction fun h => by
        rw [fails.mpr h] at read; cases read
      rcases bad with unnamed | long
      · rw [named] at unnamed; cases unnamed
      · exact if_pos (Nat.lt_of_not_le fun few => long ⟨length ▸ few, valid⟩)

theorem modeTests_forbidden {m : LaneMode} {s : State} (jump : jumpForbidden s.track.mode m = true) (es : List HeadEntry) :
    modeTests m es s = ⟨setFlag .forbidden s, .forbidden, modeData (setFlag .forbidden s) 0xFF⟩ := if_pos jump

theorem modeTests_missing {m : LaneMode} {s : State} {t : TableId} (jump : jumpForbidden s.track.mode m = false)
    (missing : (if s.track.mode = .stopped ∧ m = .running then missingTable s.store else none) = some t) (es : List HeadEntry) :
    modeTests m es s = ⟨s, .range, modeData s (tableCode t)⟩ := by
  rw [modeTests, if_neg (by rw [jump]; exact Bool.false_ne_true), missing]

theorem modeTests_applied {m : LaneMode} {s u : State} (jump : jumpForbidden s.track.mode m = false)
    (complete : (if s.track.mode = .stopped ∧ m = .running then missingTable s.store else none) = none) {es : List HeadEntry}
    (applied : u = es.foldl applyEntry (applyMode m s)) :
    modeTests m es s = ⟨u, .ok, modeData u 0xFF ++ es.map fun e => headStateCode u.heads[e.head].state⟩ := by
  rw [modeTests, if_neg (by rw [jump]; exact Bool.false_ne_true), complete, applied]

/-! ## The entries -/

theorem applyEntry_enable {e : HeadEntry} (enable : e.enable = true) (s : State) : applyEntry s e = (enableHead e.head s).1 := if_pos enable

theorem applyEntry_disable {e : HeadEntry} (disable : e.enable = false) (s : State) : applyEntry s e = disableHead e.head s :=
  if_neg (by rw [disable]; exact Bool.false_ne_true)

theorem applyEntry_enables {e : HeadEntry} {s : State} {k : Head} (at_ : s.heads[e.head] = k) (enable : e.enable = true) :
    (k.state = .disabled ∨ k.state = .latched → applyEntry s e
        = { s with heads := s.heads.set e.head.val { k with state := .ready, faultWindow := none } e.head.isLt })
      ∧ (k.state = .resting → applyEntry s e = { s with
        heads := s.heads.set e.head.val { k with restart := none, state := .ready, faultWindow := openWindow s } e.head.isLt })
      ∧ (k.state = .ready ∨ k.state = .purgeWait ∨ k.state = .purging → applyEntry s e = s) := by
  subst at_
  rw [applyEntry_enable enable, enableHead]
  refine ⟨?_, fun state => ?_, ?_⟩
  · rintro (state | state) <;> rw [state] <;> rfl
  · rw [state]; rfl
  · rintro (state | state | state) <;> rw [state]

theorem applyEntry_disables {e : HeadEntry} {s u : State} {k k' : Head} (at_ : s.heads[e.head] = k) (disable : e.enable = false)
    (drops : u = dropBookings e.head s) (left : k' = { k with
      bookings := [], restart := none, purge := none, faultWindow := none, abort := false, state := .disabled }) :
    applyEntry s e = { u with heads := u.heads.set e.head.val k' e.head.isLt } := by
  have head : u.heads[e.head] = { k with bookings := [] } := by rw [drops, dropBookings_get, if_pos rfl, at_]
  rw [applyEntry_disable disable, disableHead, ← drops]
  have wrote : ({ u.heads[e.head] with restart := none, purge := none, faultWindow := none, abort := false, state := .disabled } : Head) = k' := by
    rw [head, left]
  exact congrArg (fun x => ({ u with heads := u.heads.set e.head.val x e.head.isLt } : State)) wrote

theorem modeCode_eq (modes : List LaneMode) (list : modes = [.stopped, .running, .draining, .service]) :
    (∀ m, modeCode m = BitVec.ofNat 8 (modes.idxOf m)) ∧ ∀ b : Byte, modeOf b = modes[b.toNat]? := by
  subst list
  refine ⟨fun m => by cases m <;> rfl, fun b => ?_⟩
  have number : ∀ c : Byte, b = c ↔ b.toNat = c.toNat := fun c => BitVec.toNat_inj.symm
  unfold modeOf
  simp only [number]
  split
  · next h => rw [h]; rfl
  · split
    · next h => rw [h]; rfl
    · split
      · next h => rw [h]; rfl
      · split
        · next h => rw [h]; rfl
        · next h0 h1 h2 h3 =>
          refine (List.getElem?_eq_none ?_).symm
          have : b.toNat ≠ 0 ∧ b.toNat ≠ 1 ∧ b.toNat ≠ 2 ∧ b.toNat ≠ 3 := ⟨h0, h1, h2, h3⟩
          simp only [List.length_cons, List.length_nil]
          omega

end Sys2Proof.Machine

namespace Sys2Proof
open Machine

/-- Settles O31. The split follows the tests. -/
theorem modeTests : Obligations.ModeTests := by
  unfold Obligations.ModeTests
  refine ⟨?_, modeCode_eq, fun e w k at_ => ⟨applyEntry_enables at_, fun disable u k' => applyEntry_disables at_ disable⟩⟩
  intro dest src target entries s fits atOnce good good_eq now now_eq
  subst good_eq now_eq
  have fits' : (modeArgs target entries).length ≤ maxArgs := by rw [modeArgs_length]; exact fits
  refine ⟨fun bad => ?_, fun m named good forbidden forbidden_eq => ?_⟩
  · refine congrArg Host.Outcome.next (deliver_ask_quiet atOnce fits' (by decide) (fun n => ?_) atOnce.2.2.1 (Nat.le_of_ble_eq_true rfl))
    exact (serve_mode _ _ _).trans (serveMode_bad bad _)
  subst forbidden_eq
  obtain ⟨few, valid⟩ := good
  obtain ⟨reads, fails⟩ := headListOf_entries entries
  obtain ⟨es, read⟩ := Option.ne_none_iff_exists'.mp fun none => fails.mp none valid
  have serves : ∀ t, serve 0x04 (modeArgs target entries) t = Machine.modeTests m es t := fun t =>
    (serve_mode _ _ _).trans (serveMode_good named read few t)
  have length : es.length ≤ 4 := by
    have mapped := congrArg List.length (reads es read)
    rw [List.length_map, List.length_map] at mapped
    exact mapped.trans_le few
  have short : ∀ t, (serve 0x04 (modeArgs target entries) t).data.length ≤ partSize := fun t => by
    rw [serves, modeTests_length, partSize]
    split
    · decide
    · split
      · decide
      · exact (Nat.add_le_add_left length 2).trans (by decide)
  rw [← jumpForbidden_iff]
  refine ⟨fun jump => ?_, fun t stopped running mem missing first => ?_, fun allowed complete => ?_⟩
  · refine congrArg Host.Outcome.next (deliver_ask_notices atOnce fits' (by decide) short (u := setFlag .forbidden (setReserved 1 s)) ?_)
    rw [serves, modeTests_forbidden (s := setReserved 1 s) jump, modeData, setFlag_frame _ _ .track (by decide)]
    rfl
  · refine congrArg Host.Outcome.next (deliver_ask_quiet atOnce fits' (by decide) (fun n => ?_) atOnce.2.2.1 (Nat.le_of_ble_eq_true rfl))
    rw [serves, modeTests_missing (s := setReserved n s) (t := t)]
    · rfl
    · show jumpForbidden s.track.mode m = false
      rw [stopped, running]
      rfl
    · exact (if_pos ⟨stopped, running⟩).trans (missingTable_first mem missing first)
  · have applies := modeTests_applied (m := m) (s := setReserved 1 s) (es := es) (Bool.eq_false_iff.mpr allowed) (by
      split
      · next both => exact missingTable_none (complete both.1 both.2)
      · rfl) rfl
    refine ⟨es, _, reads es read, rfl, ?_⟩
    exact congrArg Host.Outcome.next (deliver_ask_notices atOnce fits' (by decide) short ((serves _).trans applies))

end Sys2Proof
end

section
/-! SUPPORT. Obligation O32: what an abandonment counts, what recomputed lamps show, and the transitions of an applied MODE ask (spec
sections 2.2, 2.3 and 8.5). -/
namespace Sys2Proof.Machine

/-! ## The count of the abandoned letters -/

theorem countLive_marks (t : TallyUnit) (i j : Fin 64) :
    (countLive t i).liveMarks[j] = (t.liveMarks[j] || decide (j = i ∧ t.live[i] = BitVec.allOnes 32)) := by
  unfold countLive
  by_cases full : t.live[i] = BitVec.allOnes 32
  · rw [if_pos full]
    show (t.liveMarks.set i.val true i.isLt)[j] = _
    rw [set_get]
    by_cases at_ : j = i
    · rw [if_pos at_, decide_eq_true ⟨at_, full⟩, Bool.or_true]
    · rw [if_neg at_, decide_eq_false fun h => at_ h.1, Bool.or_false]
  · rw [if_neg full, decide_eq_false fun h => full h.2, Bool.or_false]

theorem countLive_rest (t : TallyUnit) (i : Fin 64) :
    countLive t i = { t with live := (countLive t i).live, liveMarks := (countLive t i).liveMarks } := by
  unfold countLive
  split <;> rfl

theorem countAbandoned_cons (l : Letter) (ls : List Letter) (t : TallyUnit) :
    countAbandoned (l :: ls) t = countAbandoned ls (countLive t 3) := rfl

theorem countAbandoned_rest (ls : List Letter) (t : TallyUnit) :
    countAbandoned ls t = { t with live := (countAbandoned ls t).live, liveMarks := (countAbandoned ls t).liveMarks } := by
  induction ls generalizing t with
  | nil => rfl
  | cons l ls ih =>
    rw [countAbandoned_cons, ih, countLive_rest]

/-- Only the wrap mark of ABANDONED can change, and it can only become set. -/
theorem countAbandoned_marks (ls : List Letter) (t : TallyUnit) : (∀ j : Fin 64, j ≠ 3 → (countAbandoned ls t).liveMarks[j] = t.liveMarks[j])
    ∧ (t.liveMarks[(3 : Fin 64)] = true → (countAbandoned ls t).liveMarks[(3 : Fin 64)] = true) := by
  induction ls generalizing t with
  | nil => exact ⟨fun _ _ => rfl, id⟩
  | cons l ls ih =>
    obtain ⟨others, sets⟩ := ih (countLive t 3)
    rw [countAbandoned_cons]
    refine ⟨fun j other => ?_, fun set => sets ?_⟩
    · rw [others j other, countLive_marks, decide_eq_false fun h => other h.1, Bool.or_false]
    · rw [countLive_marks, set, Bool.true_or]

theorem countAbandoned_marks_below (ls : List Letter) (t : TallyUnit) (below : t.live[(3 : Fin 64)].toNat + ls.length < 4294967296) :
    (countAbandoned ls t).liveMarks[(3 : Fin 64)] = t.liveMarks[(3 : Fin 64)] := by
  induction ls generalizing t with
  | nil => rfl
  | cons l ls ih =>
    rw [List.length_cons] at below
    have one : (countLive t 3).live[(3 : Fin 64)].toNat ≤ t.live[(3 : Fin 64)].toNat + 1 := by
      rw [countLive_get, if_pos rfl]
      exact (BitVec.toNat_add _ _).trans_le (Nat.mod_le _ _)
    have notFull : t.live[(3 : Fin 64)] ≠ BitVec.allOnes 32 := fun full => by
      have all := congrArg BitVec.toNat full
      rw [show (BitVec.allOnes 32).toNat = 4294967295 from rfl] at all
      omega
    rw [countAbandoned_cons, ih _ (by omega), countLive_marks, decide_eq_false fun h => notFull h.2, Bool.or_false]

/-! ## Abandonment -/

theorem abandonLetter_alike {s t : State} (same : alike s t) (below : t.tally.live[(3 : Fin 64)].toNat < 4294967295) (l : Letter) :
    alike s (abandonLetter count t l) := by
  unfold abandonLetter
  have counted : alike s (count (tallyOfRetirement .abandoned) t) := same.count_below below
  dsimp only
  split
  · exact counted
  · exact counted.trans (.ofFrame (retireFrom_frame _ _ _))

theorem abandonLetter_live (s : State) (l : Letter) :
    (abandonLetter count s l).tally.live[(3 : Fin 64)].toNat ≤ s.tally.live[(3 : Fin 64)].toNat + 1 := by
  have tally : (abandonLetter count s l).tally = countLive s.tally (tallyOfRetirement .abandoned) := by
    unfold abandonLetter
    dsimp only
    split
    · exact count_tally _ _
    · exact count_tally _ _
  have third : tallyOfRetirement .abandoned = 3 := rfl
  rw [tally, third, countLive_get, if_pos rfl]
  exact (BitVec.toNat_add _ _).trans_le (Nat.mod_le _ _)

theorem abandonEach_alike (ls : List Letter) : ∀ {s t : State}, alike s t → t.tally.live[(3 : Fin 64)].toNat + ls.length < 4294967296 →
    alike s (ls.foldl (abandonLetter count) t) := by
  induction ls with
  | nil => exact fun same _ => same
  | cons l ls ih =>
    intro s t same below
    rw [List.length_cons] at below
    have grows := abandonLetter_live t l
    exact ih (abandonLetter_alike same (by omega) l) (by omega)

/-- Where ABANDONED does not wrap, an abandonment reaches neither the flags nor the ring port. -/
theorem abandonLetters_alike {s : State} (below : s.tally.live[(3 : Fin 64)].toNat + s.track.letters.length < 4294967296) :
    alike s (abandonLetters count s) := by
  unfold abandonLetters
  dsimp only
  generalize emptied : s.withTrack { s.track with
    letters := [], lastTrailing := none, trailExpected := s.track.letters.any fun l => decide (l.state = .opened) } = u
  have start : alike s u := emptied ▸ .ofFrame (withTrack_frame s _)
  have tally : u.tally = s.tally := emptied ▸ rfl
  have each := abandonEach_alike s.track.letters start (by rw [tally]; exact below)
  exact ((each.trans (.ofFrame (withEval_frame _ _))).trans (.ofFrame (withScan_frame _ _))).trans (.ofFrame (emptyPlan_frame _))

theorem abandonLetters_eval (s : State) : (abandonLetters count s).eval = { s.eval with queue := [], subject := none } := by
  have folded := changesOnly.foldl abandonLetter_frame s.track.letters (s.withTrack { s.track with
    letters := [], lastTrailing := none, trailExpected := s.track.letters.any fun l => decide (l.state = .opened) }) .eval (by decide)
  exact congrArg (fun u : EvaluationUnit => { u with queue := [], subject := none }) folded

theorem anyOpened_eq (s : State) : (s.track.letters.any fun l => decide (l.state = .opened)) = (openLetter s).isSome := by
  rw [openLetter, Bool.eq_iff_iff, List.find?_isSome, List.any_eq_true]

/-! ## Recomputed lamps -/

theorem recomputeLamps_get (s : State) (n : Fin 8) : (recomputeLamps s).stackers[n] = { s.stackers[n] with
    lamp := lampCondition (stackerInForce s n).capacity (stackerInForce s n).warn (committedOf s.stackers[n]) } := by
  refine foldl_finRange (fun s j => s.stackers[j]) (fun j k => { k with
      lamp := lampCondition (stackerInForce s j).capacity (stackerInForce s j).warn (committedOf k) })
    (I := fun t => t.store = s.store) (fun t h e => (recomputeLamp_frame t h .store (by decide)).trans e) (fun t h j e => ?_) rfl n
  have inForce : stackerInForce t h = stackerInForce s h := by unfold stackerInForce; rw [e]
  rw [recomputeLamp_stackers, lampConditionOf, inForce, committed]
  split
  · next at_ => rw [at_]
  · rfl

/-! ## PRINTFAIL is none of the flags that these set -/

def printfailKept (s t : State) : Prop := flagSet t .printfail = flagSet s .printfail

theorem printfailKept.ofCond {s t : State} (cond : t.cond = s.cond) : printfailKept s t := by rw [printfailKept, flagSet, flagSet, cond]

theorem printfailKept.trans {s t u : State} (h : printfailKept s t) (k : printfailKept t u) : printfailKept s u := Eq.trans k h

theorem markFlag_printfail {f : ConditionFlag} (other : f ≠ .printfail) (s : State) : printfailKept s (markFlag f s) := by
  rw [printfailKept, flagSet_markFlag, decide_eq_false other.symm, Bool.or_false]

theorem sendNotice_printfail (a : Reply) (s : State) : printfailKept s (sendNotice a s) := by
  rw [sendNotice]
  split
  · exact (printfailKept.ofCond (modifyCounters_frame s _ .cond (by decide))).trans (markFlag_printfail (f := .noticedrop) (by decide) _)
  · exact .ofCond (joinAnswer_frame s a .cond (by decide))

theorem sendHalt_printfail (c : HaltCause) (s : State) : printfailKept s (sendHalt c s) := sendNotice_printfail _ s

theorem setFlag_printfail {f : ConditionFlag} (other : f ≠ .printfail) (s : State) : printfailKept s (setFlag f s) := by
  rw [setFlag]
  split
  · exact .ofCond rfl
  · split
    · exact markFlag_printfail other s
    · exact (markFlag_printfail other s).trans (sendNotice_printfail _ _)

theorem count_printfail (i : Fin 64) (s : State) : printfailKept s (count i s) := by
  rw [count]
  have tally : printfailKept s (s.withTally (countLive s.tally i)) := .ofCond rfl
  split
  · exact tally.trans (setFlag_printfail (f := .tallywrap) (by decide) _)
  · exact tally

theorem recomputeLamp_printfail (n : Fin 8) (s : State) : printfailKept s (recomputeLamp n s) := by
  by_cases same : lampConditionOf s n = s.stackers[n].lamp
  · rw [recomputeLamp_stands same]; exact .ofCond rfl
  · have issued : printfailKept s (issueOrder (.lamp n) (lampOrder s n (lampConditionOf s n))
        (modifyStacker n (fun k => { k with lamp := lampConditionOf s n }) s)) := .ofCond (issueOrder_frame _ _ _ .cond (by decide))
    rw [recomputeLamp_changes same]
    dsimp only
    split
    · refine issued.trans ?_
      rw [enterFull]
      split
      · exact (setFlag_printfail (f := .residuefull) (by decide) _).trans (sendHalt_printfail _ _)
      · exact setFlag_printfail (f := .stackfull) (by decide) _
    · exact issued

theorem printfailKept.foldl {α : Type} {f : State → α → State} (each : ∀ s a, printfailKept s (f s a)) (xs : List α) :
    ∀ s, printfailKept s (xs.foldl f s) := by
  induction xs with
  | nil => exact fun s => .ofCond rfl
  | cons x xs ih => exact fun s => (each s x).trans (ih _)

theorem abandonLetter_printfail (s : State) (l : Letter) : printfailKept s (abandonLetter count s l) := by
  unfold abandonLetter
  have counted := count_printfail (tallyOfRetirement .abandoned) s
  dsimp only
  split
  · exact counted
  · exact counted.trans (.ofCond (retireFrom_frame _ _ _ .cond (by decide)))

theorem abandonLetters_printfail (s : State) : printfailKept s (abandonLetters count s) := by
  unfold abandonLetters
  dsimp only
  generalize emptied : s.withTrack { s.track with
    letters := [], lastTrailing := none, trailExpected := s.track.letters.any fun l => decide (l.state = .opened) } = u
  have start : printfailKept s u := emptied ▸ .ofCond rfl
  have each := printfailKept.foldl abandonLetter_printfail s.track.letters u
  generalize s.track.letters.foldl (abandonLetter count) u = w at *
  exact (start.trans each).trans (.ofCond ((emptyPlan_frame _ .cond (by decide)).trans
    ((withScan_frame _ _ .cond (by decide)).trans (withEval_frame _ _ .cond (by decide)))))

theorem enterStopped_printfail (s : State) : printfailKept s (enterStopped s) := by
  have lamps : printfailKept (abandonLetters count s) (recomputeLamps (abandonLetters count s)) :=
    printfailKept.foldl (fun s n => recomputeLamp_printfail n s) (List.finRange 8) _
  have emptied : printfailKept (recomputeLamps (abandonLetters count s)) (enterStopped s) :=
    .ofCond ((setMode_frame _ .stopped .cond (by decide)).trans (emptyBookings_frame _ .cond (by decide)))
  exact ((abandonLetters_printfail s).trans lamps).trans emptied

/-! ## The purges that emptied lists start -/

/-- Emptied lists start the purge of each head that waits for it, in head order. -/
theorem emptyBookings_alike (s : State) : alike (((List.finRange 4).filter fun h => s.heads[h].state = .purgeWait).foldl
    (fun w h => issueOrder (.purge h) ⟨headStation s.store.tables h, .purge h⟩ w) s) (emptyBookings s) := by
  unfold emptyBookings
  dsimp only
  generalize emptied : s.withHeads (Vector.ofFn fun h => { s.heads[h] with bookings := [] }) = u
  have start : alike s u := emptied ▸ .ofFrame (withHeads_frame s _)
  have store : u.store = s.store := emptied ▸ rfl
  have heads : ∀ h : Fin 4, u.heads[h] = { s.heads[h] with bookings := [] } := fun h => by
    subst emptied
    simp
  rw [List.foldl_filter]
  refine (alike.foldHeads (s := u) (f := fun s h => proceedIfEmpty h s)
    (g := fun h w => if decide (s.heads[h].state = .purgeWait) = true then issueOrder (.purge h) ⟨headStation s.store.tables h, .purge h⟩ w else w)
    (fun w t j same tables stands => ?_) (fun t h j other => ?_) (fun t h => proceedIfEmpty_frame t h .store (by decide))
    (List.nodup_finRange 4) s u start rfl fun _ _ => rfl)
  · rw [proceedIfEmpty, stands, heads j]
    by_cases waits : s.heads[j].state = .purgeWait
    · rw [if_pos (decide_eq_true waits), if_pos ⟨waits, rfl⟩, startPurge_eq, tables, store]
      exact (same.issueOrder _ _).trans (.ofFrame (modifyHead_frame _ _ _))
    · rw [if_neg (by rw [decide_eq_true_iff]; exact waits), if_neg fun h => waits h.1]
      exact same
  · rw [proceedIfEmpty_get, if_neg other]

end Sys2Proof.Machine
end

section
/-! SUPPORT. Obligation O32: the transitions of an applied MODE ask (spec sections 2.2, 2.3, 6.1 and 8.5). -/
namespace Sys2Proof.Machine

theorem completeDrain_eq {s : State} (empty : s.track.letters = []) : drainIfEmpty (setMode .draining s)
    = { s with track := { s.track with mode := .stopped, lastTrailing := none }, routing := { s.routing with plan := [] } } := by
  rw [drainIfEmpty, if_pos ⟨rfl, empty⟩]
  rfl

theorem enterStopped_eq (s : State) : enterStopped s = setMode .stopped (emptyBookings (recomputeLamps (abandonLetters count s))) := rfl

theorem enterStopped_track (s : State) : (enterStopped s).track = { s.track with
    letters := [], mode := .stopped, lastTrailing := none, trailExpected := (openLetter s).isSome } := by
  have track : (emptyBookings (recomputeLamps (abandonLetters count s))).track = { s.track with
      letters := [], lastTrailing := none, trailExpected := (openLetter s).isSome } := by
    rw [emptyBookings_frame _ .track (by decide), recomputeLamps_frame _ .track (by decide),
      abandonLetters_letters (fun i s => count_frame s i .track (by decide)), anyOpened_eq]
  exact congrArg (fun u : LetterTrack => { u with mode := .stopped }) track

theorem enterStopped_eval (s : State) : (enterStopped s).eval = { s.eval with queue := [], subject := none } := by
  rw [enterStopped_eq, setMode_frame _ _ .eval (by decide), emptyBookings_frame _ .eval (by decide),
    recomputeLamps_frame _ .eval (by decide), abandonLetters_eval]

theorem enterStopped_tally (s : State) : (enterStopped s).tally = countAbandoned s.track.letters s.tally := by
  rw [enterStopped_eq, setMode_frame _ _ .tally (by decide), emptyBookings_frame _ .tally (by decide),
    recomputeLamps_frame _ .tally (by decide), abandonLetters_tally fun i s => count_tally s i]

theorem enterStopped_heads (s : State) (h : Fin 4) : (enterStopped s).heads[h]
    = proceeding (purgeTimeoutLength s) { s.heads[h] with bookings := [] } := by
  have store : (recomputeLamps (abandonLetters count s)).store = s.store :=
    (recomputeLamps_frame _ .store (by decide)).trans (abandonLetters_frame s .store (by decide))
  have heads : (recomputeLamps (abandonLetters count s)).heads = s.heads :=
    (recomputeLamps_frame _ .heads (by decide)).trans (abandonLetters_frame s .heads (by decide))
  rw [enterStopped_eq, setMode_frame _ _ .heads (by decide), emptyBookings_get, heads, purgeTimeoutLength_congr store]

theorem enterStopped_stackers (s : State) (n : Fin 8) : (enterStopped s).stackers[n]
    = ⟨s.stackers[n].inFlight - (lettersTo s n).length, s.stackers[n].arrived, lampCondition (stackerInForce s n).capacity
      (stackerInForce s n).warn (s.stackers[n].inFlight - (lettersTo s n).length + s.stackers[n].arrived.toNat)⟩ := by
  have inForce : stackerInForce (abandonLetters count s) n = stackerInForce s n := by
    unfold stackerInForce
    rw [abandonLetters_frame s .store (by decide)]
  rw [enterStopped_eq, setMode_frame _ _ .stackers (by decide), emptyBookings_frame _ .stackers (by decide), recomputeLamps_get,
    abandonLetters_stackers (fun i s => count_frame s i .stackers (by decide)), inForce]
  rfl

theorem enterStopped_lamp (s : State) (n : Fin 8) : (enterStopped s).stackers[n].lamp = lampConditionOf (enterStopped s) n := by
  have inForce : stackerInForce (enterStopped s) n = stackerInForce s n := by
    unfold stackerInForce
    rw [enterStopped_frame s .store (by decide)]
  rw [lampConditionOf, inForce, committed, enterStopped_stackers]
  rfl

/-- The abandonment alone is the state before the lamps and the purges. -/
theorem enterStopped_outputs (s : State) : (enterStopped s).cond = (recomputeLamps (abandonLetters count s)).cond
    ∧ (enterStopped s).ring = (((List.finRange 4).filter fun h => s.heads[h].state = .purgeWait).foldl
      (fun w h => issueOrder (.purge h) ⟨headStation s.store.tables h, .purge h⟩ w) (recomputeLamps (abandonLetters count s))).ring := by
  have store : (recomputeLamps (abandonLetters count s)).store = s.store :=
    (recomputeLamps_frame _ .store (by decide)).trans (abandonLetters_frame s .store (by decide))
  have heads : (recomputeLamps (abandonLetters count s)).heads = s.heads :=
    (recomputeLamps_frame _ .heads (by decide)).trans (abandonLetters_frame s .heads (by decide))
  have purges := emptyBookings_alike (recomputeLamps (abandonLetters count s))
  rw [store, heads] at purges
  obtain ⟨-, ring, -⟩ := purges
  refine ⟨?_, ?_⟩
  · rw [enterStopped_eq, setMode_frame _ _ .cond (by decide), emptyBookings_frame _ .cond (by decide)]
  · rw [enterStopped_eq, setMode_frame _ _ .ring (by decide), ring]

/-- Settles O32. -/
theorem modeTransitions : Obligations.ModeTransitions := by
  unfold Obligations.ModeTransitions
  intro s
  refine ⟨rfl, rfl, fun some => drainIfEmpty_stands (s := setMode .draining s) (.inr some), fun empty => completeDrain_eq empty, ?_⟩
  intro t applied
  obtain rfl : t = enterStopped s := applied
  have tally := enterStopped_tally s
  obtain ⟨others, -⟩ := countAbandoned_marks s.track.letters s.tally
  have third : tallyOfRetirement .abandoned = 3 := rfl
  obtain ⟨cond, ring⟩ := enterStopped_outputs s
  refine ⟨enterStopped_track s, enterStopped_eval s, enterStopped_scan s, enterStopped_routing s, fun h => ?_, fun d timeout h => ?_, ?_,
    fun i other => ?_, ?_, enterStopped_printfail s, fun n => ⟨?_, ?_, enterStopped_lamp s n⟩,
    ⟨abandonLetters count s, (abandonLetters_frame s).mono rfl,
      fun n => abandonLetters_stackers (fun i s => count_frame s i .stackers (by decide)) s n, fun below => ?_, cond, ring⟩,
    (enterStopped_frame s).mono rfl⟩
  · rw [enterStopped_heads, proceeding]
    split <;> rfl
  · have length : purgeTimeoutLength s = d := timeout.symm
    rw [enterStopped_heads, length, proceeding]
    by_cases waits : s.heads[h].state = .purgeWait
    · rw [if_pos ⟨waits, rfl⟩, if_pos waits]
      rfl
    · rw [if_neg fun h => waits h.1, if_neg waits]
  · rw [tally, countAbandoned_live, if_pos third]
  · rw [tally, countAbandoned_live, if_neg (c := i = 3) other, others i other]
    exact ⟨rfl, rfl⟩
  · rw [tally]
    exact countAbandoned_rest _ _
  · rw [enterStopped_stackers]
  · rw [enterStopped_stackers]
  · obtain ⟨cond, ring, -⟩ := abandonLetters_alike below
    refine ⟨cond, ring, Vector.ext fun i small => ?_⟩
    show (enterStopped s).tally.liveMarks[i] = s.tally.liveMarks[i]
    rw [tally]
    by_cases at_ : (⟨i, small⟩ : Fin 64) = 3
    · obtain rfl : i = 3 := congrArg Fin.val at_
      exact countAbandoned_marks_below s.track.letters s.tally below
    · exact others ⟨i, small⟩ at_

end Sys2Proof.Machine
end

section
/-! SUPPORT. Obligation O33: what a lane reset leaves of each block, and the queues that it fills again (spec sections 2.6 and 11.2). -/
namespace Sys2Proof.Machine

/-! ## Lamps that are issued again -/

theorem lampConditionOf_resyncLamp (s : State) (m n : Fin 8) : lampConditionOf (resyncLamp s m) n = lampConditionOf s n := by
  have get := resyncLamp_get s m n
  refine lampConditionOf_congr (resyncLamp_frame s m .store (by decide)) ?_ ?_ <;> rw [get] <;> split <;> rfl

theorem resyncEach_get (ns : List (Fin 8)) (nodup : ns.Nodup) (s : State) (n : Fin 8) : (ns.foldl resyncLamp s).stackers[n]
    = if n ∈ ns then { s.stackers[n] with lamp := lampConditionOf s n } else s.stackers[n] :=
  foldl_at (f := resyncLamp) (fun t j => t.stackers[j]) (fun j k => { k with lamp := lampConditionOf s j })
    (I := fun t => ∀ j, lampConditionOf t j = lampConditionOf s j)
    (fun t m same j => (lampConditionOf_resyncLamp t m j).trans (same j))
    (fun t m j same => by
      rw [resyncLamp_get, same m]
      split
      · next at_ => rw [at_]
      · rfl) nodup (fun _ => rfl) n

theorem resynced_get (s : State) (n : Fin 8) : (resynced s).stackers[n] = { s.stackers[n] with lamp := lampConditionOf s n } := by
  rw [resynced, resyncEach_get _ (List.nodup_finRange 8), if_pos (List.mem_finRange n)]

theorem resyncLamp_ring {s : State} (busy : s.ring.sending.isSome = true) (room : s.ring.orders.length < 16) (n : Fin 8) :
    (resyncLamp s n).ring = { s.ring with orders := s.ring.orders ++ [lampOrder s n (lampConditionOf s n)] } := by
  generalize changed : modifyStacker n (fun k => { k with lamp := lampConditionOf s n }) s = t
  have ring : t.ring = s.ring := changed ▸ rfl
  have store : t.store = s.store := changed ▸ rfl
  have lamp : t.stackers[n].lamp = lampConditionOf s n := by rw [← changed, modifyStacker_get, if_pos rfl]
  rw [resyncLamp, changed, issueLamp, lamp, lampOrder_congr store, issueOrder_room (by rw [ring]; exact room),
    joinOrder_sending (by rw [ring]; exact busy), ring]
  rfl

/-- Behind a SENDING output the LAMP orders join one after another. -/
theorem resyncEach_ring (ns : List (Fin 8)) : ∀ {s : State}, s.ring.sending.isSome = true → s.ring.orders.length + ns.length ≤ 16 →
    (ns.foldl resyncLamp s).ring = { s.ring with orders := s.ring.orders ++ ns.map fun n => lampOrder s n (lampConditionOf s n) } := by
  induction ns with
  | nil => intro s _ _; rw [List.foldl_nil, List.map_nil, List.append_nil]
  | cons m ns ih =>
    intro s busy room
    rw [List.length_cons] at room
    have ring := resyncLamp_ring busy (by omega) m
    have orders : (fun n => lampOrder (resyncLamp s m) n (lampConditionOf (resyncLamp s m) n)) = fun n => lampOrder s n (lampConditionOf s n) :=
      funext fun n => by rw [lampConditionOf_resyncLamp, lampOrder_congr (resyncLamp_frame s m .store (by decide))]
    rw [List.foldl_cons, ih (by rw [ring]; exact busy) (by rw [ring, List.length_append, List.length_singleton]; omega), ring, orders,
      List.append_assoc, List.map_cons]
    rfl

/-! ## The answer in the emptied queues -/

/-- The output once the queues are emptied and the answer is granted or queued. -/
theorem resetAnswered_ring (src : Byte) (s : State) {a : Reply}
    (answer : a = oneAnswer src 0x05 .ok [s.ring.own.setWidth 8, 0, byteOf s.track.letters.length]) :
    (s.ring.sending.isSome = true → (resetAnswered (station src) s).ring
        = { s.ring with forward := [], orders := [], answers := [a], intake := [], waiting := [] })
      ∧ (s.ring.sending = none → (resetAnswered (station src) s).ring
        = { s.ring with
            forward := [], orders := [], answers := [], intake := [], waiting := []
            sending := some (replyFrame s.ring.own a), turn := .forward }) := by
  have blocks : (resetBlocks s).ring = s.ring := resetBlocks_ring s
  have mode : (resetBlocks s).track.mode = .stopped := rfl
  unfold resetAnswered
  dsimp only
  rw [blocks]
  generalize resetBlocks s = u at *
  have data : laneResetData (u.withRing (resetRing s.ring)) s.track.letters.length = [s.ring.own.setWidth 8, 0, byteOf s.track.letters.length] := by
    show [stationByte s.ring.own, modeCode u.track.mode, _] = _
    rw [mode]
    rfl
  rw [data, oneAnswer.eq_def] at *
  rw [← answer]
  refine ⟨fun busy => ?_, fun idle => ?_⟩
  · rw [joinAnswer_sending (s := u.withRing (resetRing s.ring)) busy]
    rfl
  · rw [joinAnswer_idle (s := u.withRing (resetRing s.ring)) idle rfl rfl rfl]
    rfl

/-! ## The blocks -/

theorem laneReset_track (src : Station) (s : State) : (laneReset src s).track = { s.track with
    letters := [], mode := .stopped, lastTrailing := none, trailExpected := (openLetter s).isSome } := by
  have letters := abandonLetters_letters (tally := countQuiet) (fun _ _ => rfl) s
  rw [anyOpened_eq] at letters
  rw [laneReset_afterBlocks src s .track (by decide)]
  exact congrArg (fun u : LetterTrack => { u with mode := .stopped }) letters

theorem laneReset_eval (src : Station) (s : State) : (laneReset src s).eval = { s.eval with queue := [], subject := none } := by
  have folded := changesOnly.foldl abandonLetterQuiet_frame s.track.letters (s.withTrack { s.track with
    letters := [], lastTrailing := none, trailExpected := s.track.letters.any fun l => decide (l.state = .opened) }) .eval (by decide)
  rw [laneReset_afterBlocks src s .eval (by decide)]
  exact congrArg (fun u : EvaluationUnit => { u with queue := [], subject := none }) folded

theorem laneReset_tally (src : Station) (s : State) : (laneReset src s).tally = countAbandoned s.track.letters s.tally := by
  rw [laneReset_afterBlocks src s .tally (by decide)]
  exact abandonLetters_tally (tally := countQuiet) (fun _ _ => rfl) s

theorem resetBlocks_stackers (s : State) (n : Fin 8) :
    (resetBlocks s).stackers[n] = { s.stackers[n] with inFlight := 0 } := by
  have empty : (resetBlocks s).stackers = Vector.ofFn fun n : Fin 8 =>
      { (setMode .stopped (resetHeads (abandonLetters countQuiet s))).stackers[n] with inFlight := 0 } := rfl
  have get : ∀ f : Fin 8 → Stacker, (Vector.ofFn f)[n] = f n := fun f => by simp
  have kept : (setMode .stopped (resetHeads (abandonLetters countQuiet s))).stackers = (abandonLetters countQuiet s).stackers := rfl
  rw [empty, get, kept, abandonLetters_stackers (tally := countQuiet) (fun _ _ => rfl)]

theorem laneReset_stackers (src : Station) (s : State) (n : Fin 8) : (laneReset src s).stackers[n]
    = ⟨0, s.stackers[n].arrived, lampCondition (stackerInForce s n).capacity (stackerInForce s n).warn s.stackers[n].arrived.toNat⟩ := by
  have answered := resetAnswered_frame src s
  have at_ : (resetAnswered src s).stackers[n] = { s.stackers[n] with inFlight := 0 } := by
    rw [answered .stackers (by decide), resetBlocks_stackers]
  have store : (resetBlocks s).store = { s.store with load := none } := by
    rw [← laneReset_store src s, laneReset_afterBlocks src s .store (by decide)]
  have inForce : stackerInForce (resetAnswered src s) n = stackerInForce s n := by
    unfold stackerInForce
    rw [answered .store (by decide), store]
  rw [laneReset_eq, State.withCond_stackers, resynced_get, lampConditionOf, inForce, committed, at_, committedOf, Nat.zero_add]

/-- The output that the LAMP orders join is SENDING, with an empty order queue. -/
theorem laneReset_orders (src : Station) (s : State) (sends : (resetAnswered src s).ring.sending.isSome = true)
    (empty : (resetAnswered src s).ring.orders = []) : (laneReset src s).ring = { (resetAnswered src s).ring with
      orders := (List.finRange 8).map fun n => lampOrder (laneReset src s) n (laneReset src s).stackers[n].lamp } := by
  have each := resyncEach_ring (List.finRange 8) sends (by rw [empty, List.length_finRange]; decide)
  have store : (laneReset src s).store = (resetAnswered src s).store := by
    rw [laneReset_afterBlocks src s .store (by decide), resetAnswered_frame src s .store (by decide)]
  have orders : (fun n => lampOrder (laneReset src s) n (laneReset src s).stackers[n].lamp)
      = fun n => lampOrder (resetAnswered src s) n (lampConditionOf (resetAnswered src s) n) := funext fun n => by
    rw [lampOrder_congr store, laneReset_eq, State.withCond_stackers, resynced_get]
  rw [orders, laneReset_ring, resynced, each, empty]
  rfl

/-- Settles O33, block by block; the queues from the answer and the LAMP orders that they then hold. -/
theorem laneResetActs : Obligations.LaneResetActs := by
  unfold Obligations.LaneResetActs
  intro dest src s ⟨addressed, emptyIntake, noneKept, room⟩
  have reset : isLaneReset ⟨station src, 0x05, []⟩ = true := rfl
  have hasRoom : partsNeeded ⟨station src, 0x05, []⟩ s ≤ freeAnswerPlaces s := by
    rw [partsNeeded, if_pos reset, freeAnswerPlaces, noneKept]
    omega
  have acts : exec (.laneReset dest src) s = .next (laneReset (station src) s) := by
    refine congrArg Host.Outcome.next ?_
    calc deliver dest src (.ask 0x05 []) s
        = takeAsk (station src) 0x05 [] s := deliver_taken addressed (askPayload_fits 0x05 (by decide))
      _ = serveAsk ⟨station src, 0x05, []⟩ s := takeAsk_served emptyIntake hasRoom
      _ = laneReset (station src) s := if_pos reset
  have tally := laneReset_tally (station src) s
  obtain ⟨others, sets⟩ := countAbandoned_marks s.track.letters s.tally
  have blocks := laneReset_afterBlocks (station src) s
  have reset_ := resetBlocks_frame s
  have answered := resetAnswered_ring src s rfl
  generalize answer : oneAnswer src 0x05 .ok [s.ring.own.setWidth 8, 0, byteOf s.track.letters.length] = a at answered
  have queues : (resetAnswered (station src) s).ring.sending.isSome = true ∧ (resetAnswered (station src) s).ring.orders = [] := by
    cases sending : s.ring.sending with
    | none => rw [answered.2 sending]; exact ⟨rfl, rfl⟩
    | some f => rw [answered.1 (by rw [sending]; rfl)]; exact ⟨by show s.ring.sending.isSome = true; rw [sending]; rfl, rfl⟩
  have ring := laneReset_orders (station src) s queues.1 queues.2
  have emptied : (laneReset (station src) s).ring.forward = [] ∧ (laneReset (station src) s).ring.waiting = []
      ∧ (laneReset (station src) s).ring.counters = s.ring.counters := by
    rw [ring]
    cases sending : s.ring.sending with
    | none => rw [answered.2 sending]; exact ⟨rfl, rfl, rfl⟩
    | some f => rw [answered.1 (by rw [sending]; rfl)]; exact ⟨rfl, rfl, rfl⟩
  obtain ⟨forward, waiting, counters⟩ := emptied
  refine ⟨laneReset (station src) s, acts, laneReset_track _ s, laneReset_eval _ s, laneReset_scan _ s, laneReset_routing _ s, fun h => ?_,
    laneReset_stackers _ s, laneReset_store _ s, laneReset_flagSet _ s, ?_, fun i other => ?_, ?_, fun below => ?_, fun set => ?_, ?_, ?_, ?_, ?_,
    forward, waiting, laneReset_intake _ s, counters, laneReset_own _ s, by rw [ring], fun a' is => ?_, ?_, ?_, ?_⟩
  · rw [laneReset_heads, resetHeads_get]
    rfl
  · rw [laneReset_cond]
    rfl
  · rw [tally, countAbandoned_live, if_neg other, others i other]
    exact ⟨rfl, rfl⟩
  · rw [tally]
    exact (countAbandoned_live s.track.letters s.tally (3 : Fin 64)).trans (if_pos rfl)
  · rw [tally]; exact countAbandoned_marks_below _ _ below
  · rw [tally]; exact sets set
  · rw [tally, countAbandoned_rest]
  · rw [tally, countAbandoned_rest]
  · rw [tally, countAbandoned_rest]
  · rw [tally, countAbandoned_rest]
  · subst is
    refine ⟨fun busy => ?_, fun idle => ?_⟩
    · rw [ring, answered.1 busy]
      exact ⟨rfl, rfl, rfl⟩
    · rw [ring, answered.2 idle]
      exact ⟨rfl, rfl, rfl⟩
  · rw [blocks .clock (by decide), reset_ .clock (by decide)]
  · rw [blocks .position (by decide), reset_ .position (by decide)]
  · rw [blocks .time (by decide), reset_ .time (by decide)]

end Sys2Proof.Machine
end

section
/-! SUPPORT. Obligation O29, first part: the rows that each table accepts (spec sections 1.2, 1.3, 3.9, 4.3, 5.2, 6.2, 8.1 and 10.3). -/
namespace Sys2Proof.Machine

theorem inRange_iff (lo hi x : Nat) : inRange lo hi x = true ↔ lo ≤ x ∧ x ≤ hi := decide_eq_true_iff

theorem noneOrAtMost_iff (limit : Nat) (o : Option Nat) : noneOrAtMost limit o = true ↔ ∀ x, o = some x → x ≤ limit := by
  cases o with
  | none => exact ⟨fun _ => nofun, fun _ => rfl⟩
  | some x => exact decide_eq_true_iff.trans ⟨fun h y e => Option.some.inj e ▸ h, fun h => h x rfl⟩

theorem isResidue_iff (n : Fin 8) : isResidue n = true ↔ n = 0 ∨ n = 4 := by
  rw [isResidue, Bool.or_eq_true, decide_eq_true_iff, decide_eq_true_iff]

/-- A disjunction that spares the residue stackers. -/
theorem residue_or_iff (n : Fin 8) (b : Bool) : (isResidue n || b) = true ↔ (n ≠ 0 → n ≠ 4 → b = true) := by
  rw [Bool.or_eq_true, isResidue_iff]
  constructor
  · rintro (residue | holds) first fourth
    · exact absurd residue (not_or.mpr ⟨first, fourth⟩)
    · exact holds
  · intro h
    by_cases first : n = 0
    · exact .inl (.inl first)
    · by_cases fourth : n = 4
      · exact .inl (.inr fourth)
      · exact .inr (h first fourth)

theorem not_or_iff (a b : Bool) : (!a || b) = true ↔ (a = true → b = true) := by cases a <;> simp

theorem stackerDistances_get (ts : Tables) (n : Fin 8) : (stackerDistances ts)[n] = stackerDistance ts n := by simp [stackerDistances]

theorem distancesPass_iff (ts : Tables) (n : Fin 8) : distancesPass ts n = true ↔
    (stackerDistance ts n).arrival + (stackerRow (tableRow ts .stacker n.val)).tolerance ≤ 24575
      ∧ (n ≠ 0 → n ≠ 4 → (geometryOf ts).dGate < (stackerDistance ts n).diverter
        ∧ (stackerDistance ts n).diverter < (stackerDistance ts n).arrival) := by
  rw [distancesPass, goodDistances, Bool.and_eq_true, decide_eq_true_iff, residue_or_iff, Bool.and_eq_true, decide_eq_true_iff,
    decide_eq_true_iff]

theorem goodSignature_iff (e : SignatureEntry) : goodSignature e = true ↔ (e.enabled = true →
    e.kind ≠ 0 ∧ e.band ≤ 2 ∧ e.areaMin ≤ e.areaMax ∧ e.areaMax ≤ 768 ∧ e.qLow ≤ e.qHigh) := by
  rw [goodSignature, not_or_iff]
  simp only [Bool.and_eq_true, decide_eq_true_iff, and_assoc]

/-- A stacker lies on the path of a path code when both stand below, or neither does. -/
theorem onPath_iff {path : Nat} (code : path ≤ 1) (n : Nat) : onPath path n = true ↔ n ≤ 7 ∧ (n < 4 ↔ path = 0) := by
  rw [onPath, Bool.and_eq_true, decide_eq_true_iff, decide_eq_true_iff]
  omega

def goodAlternate (r : RoutingRow) : Bool :=
  match r.alternate with
  | none => true
  | some a => onPath r.path a && decide (a ≠ r.primary)

def goodTally (r : RoutingRow) : Bool :=
  match r.tally with
  | none => true
  | some t => inRange 37 63 t

theorem goodAlternate_iff {r : RoutingRow} (code : r.path ≤ 1) :
    goodAlternate r = true ↔ ∀ a, r.alternate = some a → a ≤ 7 ∧ (a < 4 ↔ r.path = 0) ∧ a ≠ r.primary := by
  unfold goodAlternate
  cases r.alternate with
  | none => exact ⟨fun _ => nofun, fun _ => rfl⟩
  | some a =>
    dsimp only
    rw [Bool.and_eq_true, onPath_iff code, decide_eq_true_iff, and_assoc]
    exact ⟨fun h b e => Option.some.inj e ▸ h, fun h => h a rfl⟩

theorem goodTally_iff (r : RoutingRow) : goodTally r = true ↔ ∀ t, r.tally = some t → 37 ≤ t ∧ t ≤ 63 := by
  unfold goodTally
  cases r.tally with
  | none => exact ⟨fun _ => nofun, fun _ => rfl⟩
  | some t => exact (inRange_iff 37 63 t).trans ⟨fun h u e => Option.some.inj e ▸ h, fun h => h t rfl⟩

theorem goodRouting_eq (r : RoutingRow) : goodRouting r = (!r.enabled
    || (decide (r.lengthMin ≤ r.lengthMax) && decide (r.lengthMax ≤ 4095) && decide (r.path ≤ 1)
      && noneOrAtMost 7 r.pattern && onPath r.path r.primary && goodAlternate r && goodTally r)) := rfl

theorem goodRouting_iff (r : RoutingRow) : goodRouting r = true ↔ (r.enabled = true →
    r.lengthMin ≤ r.lengthMax ∧ r.lengthMin ≤ 4095 ∧ r.lengthMax ≤ 4095 ∧ r.path ≤ 1
      ∧ (∀ p, r.pattern = some p → p ≤ 7) ∧ r.primary ≤ 7 ∧ (r.primary < 4 ↔ r.path = 0)
      ∧ (∀ a, r.alternate = some a → a ≤ 7 ∧ (a < 4 ↔ r.path = 0) ∧ a ≠ r.primary)
      ∧ (∀ t, r.tally = some t → 37 ≤ t ∧ t ≤ 63)) := by
  rw [goodRouting_eq, not_or_iff]
  refine forall_congr' fun _ => ?_
  simp only [Bool.and_eq_true, decide_eq_true_iff, noneOrAtMost_iff, goodTally_iff, and_assoc]
  constructor
  · rintro ⟨order, long, code, pattern, primary, other, count⟩
    obtain ⟨small, side⟩ := (onPath_iff code _).mp primary
    exact ⟨order, order.trans long, long, code, pattern, small, side, (goodAlternate_iff code).mp other, count⟩
  · rintro ⟨order, -, long, code, pattern, small, side, other, count⟩
    exact ⟨order, long, code, pattern, (onPath_iff code _).mpr ⟨small, side⟩, (goodAlternate_iff code).mpr other, count⟩

theorem goodPattern_iff (r : PatternRow) : goodPattern r = true ↔
    r.postmark ≤ 1023 ∧ (r.least = 0 ∨ 16 ≤ r.least ∧ r.least ≤ 1023) ∧ r.style ≤ 2 := by
  simp only [goodPattern, Bool.and_eq_true, Bool.or_eq_true, decide_eq_true_iff, inRange_iff, and_assoc]

section
variable (s : State) (ts : Tables)

theorem goodGeometry_ranges : goodGeometry s ts 0 = true ↔
    1000 ≤ (geometryOf ts).dGate ∧ (geometryOf ts).dGate ≤ 8000 ∧ 16 ≤ (geometryOf ts).lGate ∧ (geometryOf ts).lGate ≤ 1000
      ∧ 16 ≤ (geometryOf ts).sGate ∧ (geometryOf ts).sGate ≤ 1000 ∧ 400 ≤ (geometryOf ts).minLength ∧ (geometryOf ts).minLength ≤ 1200
      ∧ (geometryOf ts).minLength ≤ (geometryOf ts).maxLength ∧ (geometryOf ts).maxLength ≤ 2000 ∧ (geometryOf ts).minGap ≤ 1000
      ∧ ((geometryOf ts).maxLength : Int) + 64 ≤ ((geometryOf ts).dGate : Int) - (geometryOf ts).lGate := by
  have row : goodGeometry s ts 0 = (inRange 1000 8000 (geometryOf ts).dGate && inRange 16 1000 (geometryOf ts).lGate
      && inRange 16 1000 (geometryOf ts).sGate && inRange 400 1200 (geometryOf ts).minLength
      && inRange (geometryOf ts).minLength 2000 (geometryOf ts).maxLength && decide ((geometryOf ts).minGap ≤ 1000)
      && decide ((geometryOf ts).maxLength + 64 + (geometryOf ts).lGate ≤ (geometryOf ts).dGate)) := rfl
  rw [row]
  simp only [Bool.and_eq_true, decide_eq_true_iff, inRange_iff]
  omega

theorem goodGeometry_distances : goodGeometry s ts 1 = true ↔
    (geometryOf ts).dcStraight ≤ 16000 ∧ (geometryOf ts).dcTurn ≤ 16000 ∧ 3686 ≤ (geometryOf ts).turnScale ∧ (geometryOf ts).turnScale ≤ 4506
      ∧ 16 ≤ (geometryOf ts).lPrint ∧ (geometryOf ts).lPrint ≤ 2000 ∧ (geometryOf ts).rHead ≤ 400
      ∧ (geometryOf ts).dGate < (geometryOf ts).dcStraight
      ∧ (geometryOf ts).dGate < convert (geometryOf ts).dGate (geometryOf ts).turnScale .turn (geometryOf ts).dcTurn := by
  have row : goodGeometry s ts 1 = (decide ((geometryOf ts).dcStraight ≤ 16000) && decide ((geometryOf ts).dcTurn ≤ 16000)
      && inRange 3686 4506 (geometryOf ts).turnScale && inRange 16 2000 (geometryOf ts).lPrint && decide ((geometryOf ts).rHead ≤ 400)
      && decide ((geometryOf ts).dGate < (geometryOf ts).dcStraight)
      && decide ((geometryOf ts).dGate < convert (geometryOf ts).dGate (geometryOf ts).turnScale .turn (geometryOf ts).dcTurn)) := rfl
  rw [row]
  simp only [Bool.and_eq_true, decide_eq_true_iff, inRange_iff, and_assoc]

theorem goodGeometry_times : goodGeometry s ts 2 = true ↔
    100 ≤ (geometryOf ts).restartDelay ∧ (geometryOf ts).restartDelay ≤ 30000 ∧ (geometryOf ts).faultWindow ≤ 60000
      ∧ 1000 ≤ (geometryOf ts).purgeTimeout ∧ (geometryOf ts).purgeTimeout ≤ 60000 := by
  have row : goodGeometry s ts 2 = (inRange 100 30000 (geometryOf ts).restartDelay && decide ((geometryOf ts).faultWindow ≤ 60000)
      && inRange 1000 60000 (geometryOf ts).purgeTimeout) := rfl
  rw [row]
  simp only [Bool.and_eq_true, decide_eq_true_iff, inRange_iff, and_assoc]

theorem goodGeometry_margin : goodGeometry s ts 3 = true ↔ (geometryOf ts).stackMargin ≤ 64
    ∧ (isCommitted s.store .stacker = true → ∀ n, distancesPass ts n = true) := by
  have row : goodGeometry s ts 3 = (decide ((geometryOf ts).stackMargin ≤ 64)
      && (!isCommitted s.store .stacker || (List.finRange 8).all fun n => distancesPass ts n)) := rfl
  rw [row, Bool.and_eq_true, decide_eq_true_iff, not_or_iff, List.all_eq_true]
  simp only [List.mem_finRange, true_implies]

theorem goodStacker_iff (n : Fin 8) {r : StackerRow} (row : r = stackerRow (tableRow ts .stacker n.val)) : goodRow s ts .stacker n.val = true ↔
    (n ≠ 0 → n ≠ 4 → r.diverter ≤ 24575) ∧ r.arrival ≤ 24575 ∧ 8 ≤ r.tolerance
      ∧ r.tolerance ≤ 1023 ∧ r.capacity ≤ 4000 ∧ r.warn ≤ r.capacity
      ∧ (∀ p, r.nearPattern = some p → p ≤ 3) ∧ (∀ p, r.fullPattern = some p → p ≤ 3)
      ∧ (s.stackers[n].inFlight + s.stackers[n].arrived.toNat ≤ r.capacity ∨ (n = 0 ∨ n = 4) ∧ r.capacity = 0)
      ∧ (isCommitted s.store .geometry = true → distancesPass ts n = true) := by
  have good : goodRow s ts .stacker n.val = goodStacker s ts (stackerOf n.val) := rfl
  have count : committed s n = s.stackers[n].inFlight + s.stackers[n].arrived.toNat := rfl
  rw [good, stackerOf_val, goodStacker, ← row, ← count]
  simp only [Bool.and_eq_true]
  rw [residue_or_iff, not_or_iff]
  simp only [decide_eq_true_iff, inRange_iff, noneOrAtMost_iff, Bool.or_eq_true, Bool.and_eq_true, isResidue_iff, and_assoc]

theorem goodScanset_window {k : Scanset} (row : k = scansetOf ts) : goodScanset ts 0 = true ↔
    16 ≤ k.window ∧ k.window ≤ 96 ∧ k.upper ≠ 0 ∧ k.lower ≠ 0 ∧ k.gap ≤ 64 := by
  have good : goodScanset ts 0 = (inRange 16 96 (scansetOf ts).window && decide ((scansetOf ts).upper ≠ 0)
      && decide ((scansetOf ts).lower ≠ 0) && decide ((scansetOf ts).gap ≤ 64)) := rfl
  rw [good, ← row]
  simp only [Bool.and_eq_true, decide_eq_true_iff, inRange_iff, and_assoc]

theorem goodScanset_hits {k : Scanset} (row : k = scansetOf ts) : goodScanset ts 1 = true ↔
    1 ≤ k.hit.glow ∧ k.hit.glow ≤ 1023 ∧ 1 ≤ k.hit.fluor ∧ k.hit.fluor ≤ 1023 ∧ 1 ≤ k.hit.red ∧ k.hit.red ≤ 1023 := by
  have good : goodScanset ts 1 = (inRange 1 1023 (scansetOf ts).hit.glow && inRange 1 1023 (scansetOf ts).hit.fluor
      && inRange 1 1023 (scansetOf ts).hit.red) := rfl
  rw [good, ← row]
  simp only [Bool.and_eq_true, inRange_iff, and_assoc]

theorem goodOffice_numbers (own : Station) : goodOffice own ts 0 = true ↔ officeNumber ts ≤ 99999 ∧ laneNumber ts ≤ 15 ∧ cutoverHour ts ≤ 23 := by
  have good : goodOffice own ts 0 = (decide (officeNumber ts ≤ 99999) && decide (laneNumber ts ≤ 15) && decide (cutoverHour ts ≤ 23)) := rfl
  rw [good]
  simp only [Bool.and_eq_true, decide_eq_true_iff, and_assoc]

theorem goodOffice_stations (own : Station) : goodOffice own ts 1 = true ↔ ∀ k, k < 8 → ∀ n, n = byteAt (tableRow ts .office 1) k →
    n ≤ 30 ∧ n ≠ own.toNat := by
  have good : goodOffice own ts 1 = (List.range 8).all fun k =>
      decide (byteAt (tableRow ts .office 1) k ≤ 30) && decide (byteAt (tableRow ts .office 1) k ≠ own.toNat) := rfl
  rw [good, List.all_eq_true]
  refine forall_congr' fun k => ?_
  rw [List.mem_range, Bool.and_eq_true, decide_eq_true_iff, decide_eq_true_iff]
  exact ⟨fun h small n e => e ▸ h small, fun h small => h small _ rfl⟩

end

end Sys2Proof.Machine
end

section
/-! SUPPORT. Obligation O29: the staged rows in their places, the tests of a commit in their order, and the effects of one that passes
(spec sections 1.4, 8.5, 10.2 and 10.3). -/
namespace Sys2Proof.Machine

/-! ## The staged rows in their places -/

theorem overlayRows_get {n : Nat} (live : Vector Row n) (first : Nat) (staged : List Row) {j : Nat} (small : j < n) :
    (overlayRows live first staged)[j]?.getD 0
      = if first ≤ j ∧ j < first + staged.length then (staged[j - first]?).getD 0 else live[j]?.getD 0 := by
  have at_ : (overlayRows live first staged)[j]?.getD 0 = if first ≤ j then (staged[j - first]?).getD live[j] else live[j] := by
    simp [overlayRows, small]
  have held : live[j]?.getD 0 = live[j] := by simp [small]
  rw [at_, held]
  by_cases past : first ≤ j
  · rw [if_pos past]
    by_cases staged_ : j < first + staged.length
    · have within : j - first < staged.length := by omega
      rw [if_pos ⟨past, staged_⟩, List.getElem?_eq_getElem within]
      rfl
    · rw [if_neg fun h => staged_ h.2, List.getElem?_eq_none (by omega)]
      rfl
  · rw [if_neg past, if_neg fun h => past h.1]

theorem tableRow_overlay (ts : Tables) (l : Load) (w : TableId) {j : Nat} (small : j < rowCount w) : tableRow (overlay ts l) w j
    = if w = l.table ∧ l.first ≤ j ∧ j < l.first + l.rows.length then (l.rows[j - l.first]?).getD 0 else tableRow ts w j := by
  by_cases own : w = l.table
  · obtain ⟨t, first, declared, rows, sum⟩ := l
    obtain rfl : w = t := own
    simp only [true_and]
    cases w <;> exact overlayRows_get _ first rows small
  · rw [tableRow_overlay_of_ne ts l own, if_neg fun h => own h.1]

/-! ## The first bad row -/

theorem goodRow_setReserved (n : Nat) (s : State) (ts : Tables) (t : TableId) (i : Nat) : goodRow (setReserved n s) ts t i = goodRow s ts t i := by
  cases t <;> rfl

theorem firstBadRow_setReserved (n : Nat) (s : State) (ts : Tables) (t : TableId) : firstBadRow (setReserved n s) ts t = firstBadRow s ts t := by
  unfold firstBadRow
  simp only [goodRow_setReserved]

theorem firstBadRow_some {s : State} {ts : Tables} {t : TableId} {i : Nat} (inTable : i < rowCount t) (bad : goodRow s ts t i = false)
    (first : ∀ j, j < i → goodRow s ts t j = true) : firstBadRow s ts t = some i := by
  rw [firstBadRow, List.find?_range_eq_some]
  exact ⟨by rw [bad]; rfl, List.mem_range.mpr inTable, fun j less => by rw [first j less]; rfl⟩

theorem firstBadRow_of_good {s : State} {ts : Tables} {t : TableId} (good : ∀ j, j < rowCount t → goodRow s ts t j = true) :
    firstBadRow s ts t = none :=
  List.find?_eq_none.mpr fun j mem => by rw [good j (List.mem_range.mp mem)]; decide

/-! ## The tests -/

/-- The outcome of the last test: the first bad row, or the commit. -/
def commitTested (l : Load) (s : State) : Option Nat → Served
  | some i => ⟨abortLoad s, .range, [byteOf i, 0, 0, 0] ++ loadData none⟩
  | none => ⟨commitLoad l s, .ok, [0xFF, tableCode l.table, byteOf l.first, byteOf (receivedCount l)] ++ loadData none⟩

section
variable {sum : BitVec 16} {s : State} {l : Load} (load : s.store.load = some l)

theorem serveTableCommit_closed (none : s.store.load = none) : serveTableCommit sum s = ⟨s, .sequence, commitRefusal .none⟩ := by
  rw [serveTableCommit.eq_def, none]

include load

theorem serveTableCommit_open : serveTableCommit sum s = if laneRuns s.track.mode then ⟨s, .mode, commitRefusal (some l)⟩
    else if isProtected s.store l.table then ⟨abortLoad s, .protected_, commitRefusal none⟩
    else if receivedCount l < l.declared then ⟨abortLoad s, .sequence, commitRefusal none⟩
    else if l.sum ≠ sum then ⟨abortLoad s, .check, commitRefusal none⟩
    else commitTested l s (firstBadRow s (overlay s.store.tables l) l.table) := by
  rw [serveTableCommit.eq_def, load]
  rfl

theorem serveTableCommit_runs (runs : laneRuns s.track.mode = true) : serveTableCommit sum s = ⟨s, .mode, commitRefusal (some l)⟩ := by
  rw [serveTableCommit_open load, if_pos runs]

variable (stands : laneRuns s.track.mode = false)
include stands

theorem serveTableCommit_protected (guarded : isProtected s.store l.table = true) :
    serveTableCommit sum s = ⟨abortLoad s, .protected_, commitRefusal none⟩ := by
  rw [serveTableCommit_open load, stands, if_neg Bool.false_ne_true, if_pos guarded]

variable (free : isProtected s.store l.table = false)
include free

theorem serveTableCommit_missing (few : l.rows.length < l.declared) : serveTableCommit sum s = ⟨abortLoad s, .sequence, commitRefusal none⟩ := by
  rw [serveTableCommit_open load, stands, if_neg Bool.false_ne_true, free, if_neg Bool.false_ne_true, receivedCount, if_pos few]

variable (all : l.declared ≤ l.rows.length)
include all

theorem serveTableCommit_checked (other : l.sum ≠ sum) : serveTableCommit sum s = ⟨abortLoad s, .check, commitRefusal none⟩ := by
  rw [serveTableCommit_open load, stands, if_neg Bool.false_ne_true, free, if_neg Bool.false_ne_true, receivedCount,
    if_neg (Nat.not_lt.mpr all), if_pos other]

variable (same : l.sum = sum)
include same

theorem serveTableCommit_bad {i : Nat} (bad : firstBadRow s (overlay s.store.tables l) l.table = some i) :
    serveTableCommit sum s = ⟨abortLoad s, .range, [byteOf i, 0, 0, 0] ++ loadData none⟩ := by
  rw [serveTableCommit_open load, stands, if_neg Bool.false_ne_true, free, if_neg Bool.false_ne_true, receivedCount,
    if_neg (Nat.not_lt.mpr all), if_neg (not_not.mpr same), bad, commitTested]

theorem serveTableCommit_good (good : firstBadRow s (overlay s.store.tables l) l.table = none) :
    serveTableCommit sum s
      = ⟨commitLoad l s, .ok, [0xFF, tableCode l.table, byteOf l.first, byteOf l.rows.length] ++ loadData none⟩ := by
  rw [serveTableCommit_open load, stands, if_neg Bool.false_ne_true, free, if_neg Bool.false_ne_true, receivedCount,
    if_neg (Nat.not_lt.mpr all), if_neg (not_not.mpr same), good]
  rfl

end

theorem exec_tableCommit {dest src : Byte} {sum : BitVec 16} {s u : State} {status : Status} {data : List Byte}
    (atOnce : servedAtOnce dest src 1 s) (serves : serveTableCommit sum (setReserved 1 s) = ⟨u, status, data⟩) :
    exec (.tableCommit dest src sum) s = .next (joinAnswer (oneAnswer src 0x08 status data) (setReserved 0 u)) := by
  have served : ∀ t, serve 0x08 (natBytes 2 sum.toNat) t = serveTableCommit sum t := fun t =>
    congrArg (serveTableCommit · t) (le16_natBytes sum)
  refine congrArg Host.Outcome.next (deliver_ask_notices atOnce (by rw [natBytes_length]; decide) (by decide) (fun t => ?_)
    ((served _).trans serves))
  rw [served, tableCommit_length]
  decide

/-! ## A commit that passes -/

/-- The table store after a commit that passes. -/
def storeCommitted (st : TableStore) (l : Load) : TableStore := { st with
  tables := overlay st.tables l
  committed := st.committed.set (tableNumber l.table).val true (tableNumber l.table).isLt
  load := none }

theorem tableNumber_inj {t u : TableId} : tableNumber t = tableNumber u ↔ t = u := by
  cases t <;> cases u <;> simp [tableNumber]

theorem isCommitted_storeCommitted (st : TableStore) (l : Load) (w : TableId) :
    isCommitted (storeCommitted st l) w = (isCommitted st w || decide (w = l.table)) := by
  have get : (st.committed.set (tableNumber l.table).val true (tableNumber l.table).isLt)[tableNumber w]
      = if tableNumber w = tableNumber l.table then true else st.committed[tableNumber w] := set_get _ _ _ _
  rw [isCommitted, storeCommitted, get]
  by_cases own : w = l.table
  · rw [if_pos (tableNumber_inj.mpr own), decide_eq_true own, Bool.or_true]
  · rw [if_neg fun same => own (tableNumber_inj.mp same), decide_eq_false own, Bool.or_false]
    rfl

theorem commitLoad_eq (l : Load) (s : State) : commitLoad l s = commitEffects l.table (s.withStore (storeCommitted s.store l)) := rfl

theorem formDistances_geometry {s : State} (committed : isCommitted s.store .geometry = true) : formDistances .geometry s
    = s.withPosition { s.position with
      lane := some (laneDistances (geometryOf s.store.tables))
      stackers := if isCommitted s.store .stacker then some (stackerDistances s.store.tables) else s.position.stackers } := by
  rw [formDistances, committed, Bool.true_and, if_pos rfl]

theorem formDistances_stacker {s : State} (committed : isCommitted s.store .stacker = true) : formDistances .stacker s
    = s.withPosition { s.position with
      stackers := if isCommitted s.store .geometry then some (stackerDistances s.store.tables) else s.position.stackers } := by
  rw [formDistances, committed, Bool.and_true, if_neg (c := TableId.stacker = .geometry) (by decide)]

section
variable {l : Load} {s : State} (noneKept : s.ring.reserved = 0)
include noneKept

theorem commitLoad_quiet (quiet : l.table = .signature ∨ l.table = .routing ∨ l.table = .pattern ∨ l.table = .scanset ∨ l.table = .office) :
    setReserved 0 (commitLoad l (setReserved 1 s)) = s.withStore (storeCommitted s.store l) := by
  have effects : ∀ t, commitEffects l.table t = t := fun t => by rcases quiet with e | e | e | e | e <;> rw [e, commitEffects.eq_def]
  rw [commitLoad_eq, effects]
  exact setReserved_self (s := s.withStore (storeCommitted s.store l)) noneKept

theorem commitLoad_geometry (table : l.table = .geometry) : setReserved 0 (commitLoad l (setReserved 1 s))
    = (s.withStore (storeCommitted s.store l)).withPosition { s.position with
      lane := some (laneDistances (geometryOf (storeCommitted s.store l).tables))
      stackers := if isCommitted s.store .stacker then some (stackerDistances (storeCommitted s.store l).tables) else s.position.stackers } := by
  have geometry : isCommitted (storeCommitted s.store l) .geometry = true := by rw [isCommitted_storeCommitted, table]; exact Bool.or_true _
  have stacker : isCommitted (storeCommitted s.store l) .stacker = isCommitted s.store .stacker := by
    rw [isCommitted_storeCommitted, table]; exact Bool.or_false _
  have formed := formDistances_geometry (s := setReserved 1 (s.withStore (storeCommitted s.store l))) geometry
  have store : (setReserved 1 (s.withStore (storeCommitted s.store l))).store = storeCommitted s.store l := rfl
  rw [store, stacker] at formed
  have effects : commitLoad l (setReserved 1 s) = formDistances .geometry (setReserved 1 (s.withStore (storeCommitted s.store l))) := by
    rw [commitLoad_eq, table]; rfl
  rw [effects, formed]
  exact setReserved_self (s := (s.withStore (storeCommitted s.store l)).withPosition _) noneKept

omit noneKept in
theorem commitLoad_stacker (table : l.table = .stacker) : commitLoad l (setReserved 1 s)
    = recomputeLamps (setReserved 1 ((s.withStore (storeCommitted s.store l)).withPosition { s.position with
      stackers := if isCommitted s.store .geometry then some (stackerDistances (storeCommitted s.store l).tables) else s.position.stackers })) := by
  have stacker : isCommitted (storeCommitted s.store l) .stacker = true := by rw [isCommitted_storeCommitted, table]; exact Bool.or_true _
  have geometry : isCommitted (storeCommitted s.store l) .geometry = isCommitted s.store .geometry := by
    rw [isCommitted_storeCommitted, table]; exact Bool.or_false _
  have formed := formDistances_stacker (s := setReserved 1 (s.withStore (storeCommitted s.store l))) stacker
  have store : (setReserved 1 (s.withStore (storeCommitted s.store l))).store = storeCommitted s.store l := rfl
  rw [store, geometry] at formed
  have effects : commitLoad l (setReserved 1 s)
      = recomputeLamps (formDistances .stacker (setReserved 1 (s.withStore (storeCommitted s.store l)))) := by
    rw [commitLoad_eq, table]; rfl
  rw [effects, formed]
  rfl

omit noneKept in
theorem commitLoad_lamp (table : l.table = .lamp) :
    commitLoad l (setReserved 1 s) = reissueLamps (setReserved 1 (s.withStore (storeCommitted s.store l))) := by
  rw [commitLoad_eq, table]; rfl

end

end Sys2Proof.Machine
end

section
/-! SUPPORT. Obligation O29: TABLE COMMIT (spec sections 10.2 and 10.3). -/
namespace Sys2Proof.Machine

theorem laneRuns_iff (m : LaneMode) : laneRuns m = true ↔ m = .running ∨ m = .draining := decide_eq_true_iff

section
variable {dest src : Byte} {sum : BitVec 16} {s : State} (atOnce : servedAtOnce dest src 1 s)
include atOnce

/-- A commit that no test has let through is answered with the state as it stands. -/
theorem exec_tableCommit_kept {status : Status} {data : List Byte}
    (serves : serveTableCommit sum (setReserved 1 s) = ⟨setReserved 1 s, status, data⟩) :
    exec (.tableCommit dest src sum) s = .next (joinAnswer (oneAnswer src 0x08 status data) s) := by
  have kept : setReserved 0 (setReserved 1 s) = s := setReserved_self atOnce.2.2.1
  rw [exec_tableCommit atOnce serves, kept]

/-- A commit that aborts the load: LOADERR is raised with the answer's place kept. -/
theorem exec_tableCommit_aborted {status : Status} {data : List Byte} {aborted : State}
    (abort : aborted = setReserved 0 (setFlag .loaderr (setReserved 1 { s with store := { s.store with load := none } })))
    (serves : serveTableCommit sum (setReserved 1 s) = ⟨abortLoad (setReserved 1 s), status, data⟩) :
    exec (.tableCommit dest src sum) s = .next (joinAnswer (oneAnswer src 0x08 status data) aborted) := by
  rw [exec_tableCommit atOnce serves, abort]
  rfl

end

theorem stackerDistances_of {ts : Tables} {g : Geometry} (geometry : g = geometryOf ts) {row : Fin 8 → StackerRow}
    (rows : ∀ n, row n = stackerRow (tableRow ts .stacker n.val)) {path : Fin 8 → Path}
    (paths : ∀ n, path n = if n.val < 4 then .straight else .turn) (n : Fin 8) : stackerDistance ts n
      = ⟨convert g.dGate g.turnScale (path n) (row n).arrival, convert g.dGate g.turnScale (path n) (row n).diverter⟩ := by
  rw [geometry, rows, paths]
  rfl

/-- Settles O29: the tests in their order, the effects of a commit that passes, and the rows that each table accepts. -/
theorem tableCommitTests : Obligations.TableCommitTests := by
  unfold Obligations.TableCommitTests
  refine ⟨fun dest src sum s atOnce => ⟨fun closed => ?_, fun l load aborted abort running runs => ?_⟩,
    fun ts l w j small => tableRow_overlay ts l w small, fun s ts g geometry row rows path paths => ⟨fun n => ?_, fun good distances => ?_⟩⟩
  · exact exec_tableCommit_kept atOnce (serveTableCommit_closed (s := setReserved 1 s) closed)
  · have load' : (setReserved 1 s).store.load = some l := load
    have stands : ¬running → laneRuns (setReserved 1 s).track.mode = false := fun still =>
      Bool.eq_false_iff.mpr fun r => still (runs ▸ (laneRuns_iff _).mp r)
    have aborts := fun {status : Status} {data : List Byte} => exec_tableCommit_aborted (status := status) (data := data) (sum := sum) atOnce abort
    refine ⟨fun now => ?_, fun still guarded => ?_, fun still free few => ?_, fun still free all other => ?_,
      fun i still free all same inTable bad first => ?_, fun still free all same good => ?_⟩
    · exact exec_tableCommit_kept atOnce (serveTableCommit_runs load' ((laneRuns_iff _).mpr (runs.mp now)))
    · exact aborts (serveTableCommit_protected load' (stands still) guarded)
    · exact aborts (serveTableCommit_missing load' (stands still) free few)
    · exact aborts (serveTableCommit_checked load' (stands still) free all other)
    · refine aborts (serveTableCommit_bad load' (stands still) free all same ?_)
      rw [firstBadRow_setReserved]
      exact firstBadRow_some inTable bad first
    · have passes := serveTableCommit_good load' (stands still) free all same (by
        rw [firstBadRow_setReserved]
        exact firstBadRow_of_good good)
      refine ⟨storeCommitted s.store l, _, exec_tableCommit atOnce passes, commitLoad_quiet atOnce.2.2.1, commitLoad_geometry atOnce.2.2.1,
        fun table => congrArg (setReserved 0) (commitLoad_stacker table), fun table => congrArg (setReserved 0) (commitLoad_lamp table), rfl,
        isCommitted_storeCommitted s.store l, fun w j small => tableRow_overlay s.store.tables l w small, rfl, rfl, rfl, rfl⟩
  · rw [stackerDistances_get, stackerDistances_of geometry rows paths]
  · have pass : ∀ n, distancesPass ts n = true ↔ good n := fun n => by
      rw [distancesPass_iff, stackerDistances_of geometry rows paths, ← rows, ← geometry]
      exact (distances n).symm
    subst geometry
    refine ⟨goodGeometry_ranges s ts, goodGeometry_distances s ts, goodGeometry_times s ts, ?_, fun n => ?_,
      fun k set => ⟨goodScanset_window ts set, goodScanset_hits ts set⟩, ?_, ?_, ?_, goodOffice_numbers ts s.ring.own,
      goodOffice_stations ts s.ring.own, fun _ => rfl⟩
    · simp only [← pass]
      exact goodGeometry_margin s ts
    · rw [← pass]
      exact goodStacker_iff s ts n (rows n)
    · rintro i e rfl
      exact goodSignature_iff _
    · rintro i r rfl
      exact goodRouting_iff _
    · rintro i r rfl
      exact goodPattern_iff _

end Sys2Proof.Machine
end
